-- ==== Sys2Proof/Word.lean ====
section
/-! DEFINITION. The one bit-vector word of the LH-440 model: the byte of the lane link, the reader
line and the printer lines. Everything the manual counts rather than masks is a Nat or an Int. -/

namespace Sys2Proof

/-- A byte on the lane link (R4), on the reader line (R64) or on the printer's data lines (R180). -/
abbrev Byte := BitVec 8

/-- A 16-bit check register (R4, R193). -/
abbrev CheckWord := BitVec 16

end Sys2Proof
end

