-- ==== Sys2Proof/Syntax.lean ====
section
/-! DEFINITION. The commands of the LH-440: one constructor of `Instr` for each row of
spec/opcode_table.json, with the operands the manual gives the request or event. A request row carries its
tag and its decoded fields; `none` in place of the fields stands for a payload that is malformed in form
(R13: it ends early, bytes remain, a bad presence byte, a bad character or a choice beyond its list).
Fields out of the range their chapter states are still fields: the meaning refuses them. -/

namespace Sys2Proof

/-- The two stored areas (chapter 12). -/
inductive Area where
  | metro
  | settings
deriving DecidableEq, Repr

/-- The seven logical channels (Table 1-2). -/
inductive Channel where
  | mgmt | scale | card | pay | ticket | print | drawer
deriving DecidableEq, Repr

/-- Card classes in the order of R78. -/
inductive CardClass where
  | payment | gift | loyalty | cashier | supervisor
deriving DecidableEq, Repr

/-- The base of a unit price (R54). -/
inductive PriceBase where
  | perKg | per100g
deriving DecidableEq, Repr

/-- The style of a TEXT segment (Table 10-2). -/
inductive TextStyle where
  | normal | bold | double
deriving DecidableEq, Repr

/-- The cut of a CUT segment (Table 10-2). -/
inductive CutKind where
  | partialCut | fullCut
deriving DecidableEq, Repr

/-- The field an INSERT segment names (Table 10-2). -/
inductive InsertField where
  | ticketNumber | operator | loyalty | calCount | line | allWeighed | total | tenders | change
deriving DecidableEq, Repr

/-- One segment of a print job or of a fragment (Table 10-2). -/
inductive Segment where
  | text (style : TextStyle) (chars : List Byte)
  | raster (width : Nat) (rows : List (List Byte))
  | feed (dotLines : Nat)
  | cut (kind : CutKind)
  | insert (field : InsertField) (line : Nat)
  | call (fragment : Nat)
deriving DecidableEq, Repr

/-- One entry of the card range table (R69). -/
structure RangeEntry where
  low : Nat
  high : Nat
  minLength : Nat
  maxLength : Nat
  cardClass : CardClass
  checkDigit : Bool
  expiry : Bool
  keepFirst : Nat
  keepLast : Nat
deriving DecidableEq, Repr

/-- A calibration point: a count and its weight in mg (R25). -/
structure CalPoint where
  count : Int
  weight : Int
deriving DecidableEq, Repr

/-- Fields of CAL POINT SET (R26). -/
structure CalPointFields where
  index : Nat
  point : CalPoint
deriving DecidableEq, Repr

/-- Fields of READ JOURNAL (R141): the sequence asked from, and how many entries. -/
structure JournalFields where
  first : Nat
  count : Nat
deriving DecidableEq, Repr

/-- Fields of SET ITEM (R194). -/
structure ItemFields where
  item : Nat
  value : Nat
deriving DecidableEq, Repr

/-- Fields of TARE SET (R50). -/
structure TareFields where
  code : Nat
  value : Option Nat
deriving DecidableEq, Repr

/-- Fields of PRESET TARE (R48). -/
structure PresetFields where
  code : Nat
  value : Nat
deriving DecidableEq, Repr

/-- Fields of FRAGMENT WRITE (R176). -/
structure FragmentFields where
  number : Nat
  segments : List Segment
deriving DecidableEq, Repr

/-- Fields of FRAGMENT READ (R177). -/
structure FragmentReadFields where
  number : Nat
  first : Nat
deriving DecidableEq, Repr

/-- Fields of WEIGH (R54). -/
structure WeighFields where
  item : Nat
  price : Nat
  base : PriceBase
  post : Bool
  wait : Nat
deriving DecidableEq, Repr

/-- The payload of a WEIGH: its fields, or its bytes as they stand in the frame, which may be malformed and still hold fields
that an answer echoes (R13, R59). -/
inductive WeighPayload where
  | fields (f : WeighFields)
  | bytes (payload : List Byte)
deriving DecidableEq, Repr

/-- Fields of KEYED LINE (R104). -/
structure KeyedFields where
  item : Nat
  quantity : Option Nat
  amount : Int
deriving DecidableEq, Repr

/-- Fields of the CARD, GIFT and OTHER tenders (R118). -/
structure TenderFields where
  amount : Nat
  reference : List Byte
deriving DecidableEq, Repr

/-- Fields of JOB OPEN (R161); `bound` is the binding choice, FREE or TICKET. -/
structure JobFields where
  bound : Bool
  ticket : Nat
  stream : Bool
deriving DecidableEq, Repr

/-- Fields of SEGMENT (R163). -/
structure SegmentFields where
  job : Nat
  segment : Segment
deriving DecidableEq, Repr

/-- A request of the lane terminal whose payload has the form of its kind (R13, Table 1-10). -/
inductive Request where
  | readLinkStatus (clear : Bool)
  | calPointSet (f : CalPointFields)
  | calPointDelete (index : Nat)
  | calPointRead (index : Nat)
  | setClock (time : Nat)
  | readJournal (f : JournalFields)
  | getItem (item : Nat)
  | setItem (f : ItemFields)
  | save (area : Area)
  | reload (area : Area)
  | laneReset
  | tareSet (f : TareFields)
  | tareRead (code : Nat)
  | rangeInsert (e : RangeEntry)
  | rangeDelete (low : Nat)
  | rangeRead (index : Nat)
  | rangeClear
  | fragmentWrite (f : FragmentFields)
  | fragmentClear (number : Nat)
  | fragmentRead (f : FragmentReadFields)
  | zero
  | tare
  | presetTare (f : PresetFields)
  | clearTare
  | weigh (f : WeighFields)
  | readScale
  | readCard
  | clearCard
  | openTicket
  | setNextTicket (number : Nat)
  | keyedLine (f : KeyedFields)
  | voidLine (line : Nat)
  | readLine (line : Nat)
  | totalCheck (total : Int)
  | abandon
  | cash (amount : Nat)
  | card (f : TenderFields)
  | gift (f : TenderFields)
  | other (f : TenderFields)
  | waiveReceipt
  | forceClose
  | signOn (operator : Nat)
  | signOff
  | jobOpen (f : JobFields)
  | segment (f : SegmentFields)
  | submit (job : Nat)
  | cancel (job : Nat)
  | noSale
  | retry
  | readDrawer
deriving DecidableEq, Repr

/-- The two lamp lines (R158). -/
inductive Lamp where
  | lampA | lampB
deriving DecidableEq, Repr

/-- The two printer inputs whose changes make a status read due (R184). -/
inductive PrinterLine where
  | fault | paperOut
deriving DecidableEq, Repr

/-- The decoded fields of a request, or `none` for a payload malformed in form (R13). -/
abbrev Fields (α : Type) := Option α

/-- The commands, one constructor per row of spec/opcode_table.json, in the table's order. -/
inductive Instr where
  /-- POWER_ON: the supply is established; the straps LR1..LR0 and LID3..LID0 as they then stand. -/
  | powerOn (lr lid : Nat)
  | resetLineAssert
  /-- RESET_LINE_RELEASE, with the straps as they then stand. -/
  | resetLineRelease (lr lid : Nat)
  | ctsChange (asserted : Bool)
  /-- LANE_FRAME: bytes arriving on RXD up to the second check byte of a frame. A list that does not
  complete a frame leaves the assembler where its last byte leaves it (R5). -/
  | laneFrame (bytes : List Byte)
  /-- FRAME_OVERLENGTH: bytes arriving on RXD up to the sixth header byte of an overlong frame. -/
  | frameOverlength (bytes : List Byte)
  | gapTimerExpiry
  | frameSent
  | readLinkStatus (tag : Nat) (fields : Fields Bool)
  | calPointSet (tag : Nat) (fields : Fields CalPointFields)
  | calPointDelete (tag : Nat) (fields : Fields Nat)
  | calPointRead (tag : Nat) (fields : Fields Nat)
  | setClock (tag : Nat) (fields : Fields Nat)
  | readJournal (tag : Nat) (fields : Fields JournalFields)
  | getItem (tag : Nat) (fields : Fields Nat)
  | setItem (tag : Nat) (fields : Fields ItemFields)
  | save (tag : Nat) (fields : Fields Area)
  /-- SAVE_WRITE_END: the write of the area's save ends; `verified` is what the read-back finds. -/
  | saveWriteEnd (area : Area) (verified : Bool)
  | reload (tag : Nat) (fields : Fields Area)
  | laneReset (tag : Nat) (fields : Fields Unit)
  | tareSet (tag : Nat) (fields : Fields TareFields)
  | tareRead (tag : Nat) (fields : Fields Nat)
  | rangeInsert (tag : Nat) (fields : Fields RangeEntry)
  | rangeDelete (tag : Nat) (fields : Fields Nat)
  | rangeRead (tag : Nat) (fields : Fields Nat)
  | rangeClear (tag : Nat) (fields : Fields Unit)
  | fragmentWrite (tag : Nat) (fields : Fields FragmentFields)
  | fragmentClear (tag : Nat) (fields : Fields Nat)
  | fragmentRead (tag : Nat) (fields : Fields FragmentReadFields)
  | zero (tag : Nat) (fields : Fields Unit)
  | tare (tag : Nat) (fields : Fields Unit)
  | presetTare (tag : Nat) (fields : Fields PresetFields)
  | clearTare (tag : Nat) (fields : Fields Unit)
  | weigh (tag : Nat) (payload : WeighPayload)
  | readScale (tag : Nat) (fields : Fields Unit)
  | sampleArrival (count : Int) (ovr ref : Bool)
  | sampleTimerExpiry
  | motionWaitExpiry
  | captureWaitExpiry
  | calSwitchChange (closed : Bool)
  /-- READER_RECORD: bytes arriving on RDR_RX up to the LRC byte of a record. -/
  | readerRecord (bytes : List Byte)
  /-- RECORD_OVERLONG: bytes arriving on RDR_RX up to the 49th character of a record. -/
  | recordOverlong (bytes : List Byte)
  | characterTimerExpiry
  | readerAnswerSent
  | slotLifetimeExpiry
  | readCard (tag : Nat) (fields : Fields Unit)
  | clearCard (tag : Nat) (fields : Fields Unit)
  | signOn (tag : Nat) (fields : Fields Nat)
  | signOff (tag : Nat) (fields : Fields Unit)
  | grantTimerExpiry
  | openTicket (tag : Nat) (fields : Fields Unit)
  | setNextTicket (tag : Nat) (fields : Fields Nat)
  | keyedLine (tag : Nat) (fields : Fields KeyedFields)
  | voidLine (tag : Nat) (fields : Fields Nat)
  | readLine (tag : Nat) (fields : Fields Nat)
  | totalCheck (tag : Nat) (fields : Fields Int)
  | abandon (tag : Nat) (fields : Fields Unit)
  | cash (tag : Nat) (fields : Fields Nat)
  | card (tag : Nat) (fields : Fields TenderFields)
  | gift (tag : Nat) (fields : Fields TenderFields)
  | other (tag : Nat) (fields : Fields TenderFields)
  | waiveReceipt (tag : Nat) (fields : Fields Unit)
  | forceClose (tag : Nat) (fields : Fields Unit)
  | laneClockSecond
  | noSale (tag : Nat) (fields : Fields Unit)
  | retry (tag : Nat) (fields : Fields Unit)
  | readDrawer (tag : Nat) (fields : Fields Unit)
  /-- SENSE_CHANGE: the raw level the SENSE line changes to; closed is asserted. -/
  | senseChange (closed : Bool)
  | debounceTimerExpiry
  | pulseTimerExpiry
  | confirmTimerExpiry
  | leftOpenTimerExpiry
  | lampFlashToggle (lamp : Lamp)
  | jobOpen (tag : Nat) (fields : Fields JobFields)
  | segment (tag : Nat) (fields : Fields SegmentFields)
  | submit (tag : Nat) (fields : Fields Nat)
  | cancel (tag : Nat) (fields : Fields Nat)
  | jobStart
  | printerAck
  | blockExit
  | busyTimerExpiry
  | printerLineChange (line : PrinterLine) (asserted : Bool)
  | pollTimerExpiry
  | statusReadStart
  /-- STATUS_ANSWER: the status byte, and the level of BUSY at the answer. -/
  | statusAnswer (status : Byte) (busy : Bool)
  /-- OVERLONG_RECORD_LRC: bytes arriving on RDR_RX in SKIPPING, up to the byte after an ETX. -/
  | overlongRecordLrc (bytes : List Byte)
  | busyDeasserted
  | supplyLoss
deriving DecidableEq, Repr

end Sys2Proof
end

