-- ==== Sys2Proof/Decode.lean ====
section
/-! DEFINITION. The table's bits. spec/opcode_table.json gives no row any bits: the commands of this block are events and
requests, and what the lane link carries for a request is read by `payloadReader` (Machine/Operands.lean). -/

namespace Sys2Proof

/-- The command a word spells by the table's bits: none, since no row gives bits. -/
def decodeTableWord (_nbits _w : Nat) : Option Instr := none

end Sys2Proof
end

