-- ==== Sys2Proof/Config.lean ====
section
/-! DEFINITION. What an implementation fixes: the sizes and lengths the manual gives as constants, and
the four free values of the model. -/

namespace Sys2Proof.Config

/-- FREE VALUE (notes/assumptions/2.md). How much of a running timer is left when a frame starts is a
matter of real time, which this model does not hold. The `n`-th time such a figure is composed
after the moment its timer started, the model reads this constant, which has no body; `Machine.remaining` keeps it within
the bounds R84 and R95 set. -/
opaque elapsedReading : Nat → Nat

/-- FREE VALUE (notes/assumptions/50.md). Where the '*' of a masked form stand, of a record with no more account digits than
its entry keeps: R73 says that at least one stands, and not where. The arguments are the leading and trailing digits kept and
the account digits; `Machine.starDigits` reads the number as a set of places that is never empty. -/
opaque maskPlaces : Nat → Nat → List Byte → Nat

/-- FREE VALUE (notes/assumptions/54.md). What a response echoes of a field that cannot be read in the malformed payload of a
WEIGH that LANE RESET ends: the item code, the unit price and the byte of the base. R59 gives every WEIGH response but
BAD_FIELD the echo, and states none for a field that is cut off or lies beyond its list. The argument is the request's serial
number of admission. -/
opaque unreadEcho : Nat → Nat × Nat × Nat

/-- FREE VALUE (notes/assumptions/55.md). The level of DIR (reverse or not) and what the port drives on D7..D0 while RESET is
asserted or the supply is absent: R200 gives the other outputs a level then and names neither of these. The argument is the
count of free values read. -/
opaque heldLines : Nat → Bool × Option Byte

/-- R10: a channel holds at most four unanswered requests. -/
def maxUnanswered : Nat := 4
/-- R4: the longest payload of a lane frame. -/
def maxPayload : Nat := 1024
/-- R9: the inbound error count stops here. -/
def maxErrorCount : Nat := 65535
/-- R16: the largest life value. -/
def maxLife : Nat := 63
/-- R23: the sample window. -/
def windowSize : Nat := 32
/-- R39: zero tracking steps when this many weights have counted. -/
def trackingSteps : Nat := 16
/-- R57: record numbers wrap after this one. -/
def maxRecord : Nat := 65535
/-- R64: characters the assembly buffer holds. -/
def readerBuffer : Nat := 48
/-- R69: entries of the card range table. -/
def rangeEntries : Nat := 64
/-- R100: ticket numbers wrap after this one. -/
def maxTicketNumber : Nat := 999999
/-- R103: lines of a ticket. -/
def maxLines : Nat := 99
/-- R101: bound of the ticket total. -/
def maxTotal : Int := 9999999999
/-- R118: the tenders a ticket may hold before the last must settle it. -/
def tendersBeforeLast : Nat := 7
/-- R134: entries of the journal ring. -/
def journalEntries : Nat := 256
/-- R134, R136: the largest sequence number, and the value at which the lane clock stops. -/
def max32 : Nat := 4294967295
/-- R160: jobs of the queue. -/
def maxJobs : Nat := 8
/-- R163: segments of a job. -/
def maxSegments : Nat := 255
/-- R165: blocks of the segment pool. -/
def poolBlocks : Nat := 256
/-- R165: segment bytes a block carries. -/
def blockContent : Nat := 60
/-- R169: return positions the call stack holds. -/
def maxCallDepth : Nat := 4
/-- R176: blocks one fragment may take. -/
def fragmentBlocks : Nat := 32
/-- R176: blocks of the whole fragment store. -/
def fragmentStoreBlocks : Nat := 128
/-- R176, R177: segment bytes that fit beside the other fields of a FRAGMENT READ response. -/
def fragmentReadBytes : Nat := 1019
/-- R181: bytes the printer port's FIFO holds. -/
def fifoSize : Nat := 64
/-- R184: the poll timer's length in ms. -/
def pollInterval : Nat := 2000

end Sys2Proof.Config
end

