-- ==== Sys2Proof/Machine/State.lean ====
section
/-! DEFINITION. The state of the LH-440 as plain data, unit by unit (Table 0-1), the reasons a step can
stop, and the state right after power-on. Timers are held as the length in ms or s they were started with, `none`
while stopped: their expiry is a command, and elapsed time is not held (notes/assumptions/1.md). -/

namespace Sys2Proof.Machine

/-! ## Supply and input pins -/

/-- Whether the part is working (R200): no supply, held by the RESET line, or running. -/
inductive Power where
  | off | held | running
deriving DecidableEq, Repr

/-- The levels of the inputs that outside events change (Table 0-2). `senseClosed` is SENSE asserted,
`calClosed` the CAL switch closed, `resetAsserted` the level of the RESET line, which holds whatever the supply does. -/
structure Pins where
  cts : Bool
  senseClosed : Bool
  calClosed : Bool
  printerBusy : Bool
  printerFault : Bool
  printerPaperOut : Bool
  resetAsserted : Bool
deriving DecidableEq, Repr

/-- The straps as read by the last start-up (R1, R3). -/
structure Straps where
  lr : Nat
  lid : Nat
deriving DecidableEq, Repr

/-! ## Result and reason codes -/

/-- Result codes (Table 1-4). -/
inductive Result where
  | ok | aborted | busy | rejected | badField | noGrant | locked | full | notFound | unknownKind | limit
  | timeout | fault
deriving DecidableEq, Repr

/-- Reasons (Table 1-5), in the order of their values. -/
inductive Reason where
  | none | calMode | scaleState | sameLoad | tareActive | tareRange | outOfZeroRange | zeroOutOfRange
  | notReady | moving | overload | underload | belowMin | aboveMax | scaleFault | overlap | signedOn
  | cardRequired | ticketState | noOperator | drawerBusy | drawerOpen | notVoidable | cardTendered
  | totalUnchecked | negativeTotal | noCard | cardNotRead | cardClass | drawerState | jobState | nestLimit
  | metroInconsistent | jobPrinting
deriving DecidableEq, Repr

/-! ## Link Interface (chapter 1) -/

/-- The notice kinds of Table 1-2. -/
inductive NoticeKind where
  | linkStatus | startup | scaleState | cardState | ticketState | operatorState | jobState | printerState
  | drawerState
deriving DecidableEq, Repr

/-- The three fields every WEIGH response echoes, the base as its byte (R59). -/
structure WeighEcho where
  item : Nat
  price : Nat
  base : Nat
deriving DecidableEq, Repr

/-- An admitted request that is unanswered (R10). `id` is the model's own serial number of admissions: it
tells apart requests that carry the same tag. -/
structure Admitted where
  id : Nat
  channel : Channel
  kind : Nat
  tag : Nat
  echo : Option WeighEcho
deriving DecidableEq, Repr

/-- What comes into force when the last byte of a response has been sent (R1, R3). -/
structure LinkChange where
  rate : Option Nat
  rateOverride : Bool
  lane : Option Nat
  laneOverride : Bool
deriving DecidableEq, Repr

/-- A response waiting in its channel's queue (R12). -/
structure Response where
  id : Nat
  kind : Nat
  tag : Nat
  payload : List Byte
  change : Option LinkChange
deriving DecidableEq, Repr

/-- Whether a frame in transmission is a response or a notice. -/
inductive FrameOrigin where
  | response (id : Nat) (change : Option LinkChange)
  | notice (kind : NoticeKind)
deriving DecidableEq, Repr

/-- A frame in transmission (R4); `lane` is the lane ID that seeds its check. -/
structure OutFrame where
  channel : Channel
  kind : Nat
  tag : Nat
  life : Nat
  payload : List Byte
  lane : Nat
  origin : FrameOrigin
deriving DecidableEq, Repr

/-- The frame assembler (R5). Outside HUNTING it keeps the lane ID in force when the start byte
arrived (R3), and the bytes kept so far. -/
inductive Assembler where
  | hunting
  | header (lane : Nat) (kept : List Byte)
  | payload (lane : Nat) (header : List Byte) (need : Nat) (kept : List Byte)
  | check (lane : Nat) (header : List Byte) (payload : List Byte) (kept : List Byte)
deriving DecidableEq, Repr

/-- What the Link Interface holds for one channel (R10, R12, R16). -/
structure ChannelState where
  unanswered : List Admitted
  overrun : Bool
  responses : List Response
  life : Nat
deriving DecidableEq, Repr

/-- The owed mark of each notice kind (R14). -/
structure Owed where
  linkStatus : Bool
  startup : Bool
  scaleState : Bool
  cardState : Bool
  ticketState : Bool
  operatorState : Bool
  jobState : Bool
  printerState : Bool
  drawerState : Bool
deriving DecidableEq, Repr

/-- The Link Interface. -/
structure Link where
  assembler : Assembler
  gapTimer : Option Nat
  errorCount : Nat
  degraded : Bool
  mgmt : ChannelState
  scale : ChannelState
  card : ChannelState
  pay : ChannelState
  ticket : ChannelState
  print : ChannelState
  drawer : ChannelState
  owed : Owed
  sending : Option OutFrame
  rate : Nat
  rateOverride : Bool
  lane : Nat
  laneOverride : Bool
  nextId : Nat
deriving DecidableEq, Repr

/-! ## Scale Unit (chapters 2 and 3) -/

/-- Scale states in the order of R41. -/
inductive ScaleState where
  | off | uncalibrated | fault | settling | noZero | ready
deriving DecidableEq, Repr

/-- Kind of a tare (R45). -/
inductive TareKind where
  | semi | preset
deriving DecidableEq, Repr

/-- A present tare (R45). -/
structure Tare where
  value : Nat
  kind : TareKind
  code : Nat
deriving DecidableEq, Repr

/-- The values formed in READY at a filtered weight and held until the next (R33, R34, R52). Weights in mg,
displayed values and the division in g. `max1`, `max2` and `d1` are the items in force at that filtered weight: a change
applies from the next one (R32), so what is judged on this reading is judged by them. -/
structure Reading where
  weight : Int
  gross : Int
  range : Nat
  division : Nat
  displayedGross : Int
  displayedNet : Int
  overload : Bool
  underload : Bool
  centre : Bool
  max1 : Nat
  max2 : Nat
  d1 : Nat
deriving DecidableEq, Repr

/-- The scale operation in flight with its timer and, for WEIGH, its blocking reason (R44). -/
inductive ScaleOp where
  | zero (who : Admitted) (timer : Nat)
  | tare (who : Admitted) (timer : Nat)
  | weigh (who : Admitted) (f : WeighFields) (timer : Nat) (blocking : Reason)
deriving DecidableEq, Repr

/-- An admitted SCALE request not yet taken (R44); `none` for a payload malformed in form. -/
structure ScaleRequest where
  who : Admitted
  request : Option Request
deriving DecidableEq, Repr

/-- The Scale Unit. -/
structure Scale where
  state : ScaleState
  window : List Int
  joined : Nat
  latest : Option Int
  weights : List Int
  stable : Bool
  zero : Option Int
  zero0 : Option Int
  tracking : Nat
  zeroOutOfRange : Bool
  reading : Option Reading
  tare : Option Tare
  rearm : Bool
  nextRecord : Nat
  op : Option ScaleOp
  waiting : List ScaleRequest
  sampleTimer : Option Nat
deriving DecidableEq, Repr

/-! ## Card Unit (chapter 4) -/

/-- The source of a record (R68). -/
inductive CardSource where
  | stripe | contactless
deriving DecidableEq, Repr

/-- The record assembler (R64). In SKIPPING, `etxSeen` tells that the ETX has arrived and one byte is left. -/
inductive ReaderAssembler where
  | hunting
  | body (chars : List Byte)
  | awaitLrc (chars : List Byte)
  | skipping (etxSeen : Bool)
deriving DecidableEq, Repr

/-- The answer bytes (R66). -/
inductive Answer where
  | ack | nak
deriving DecidableEq, Repr

/-- An answer byte in transmission, and the reader rate it is sent at (R63). -/
structure AnswerInFlight where
  answer : Answer
  rate : Nat
deriving DecidableEq, Repr

/-- A card held in the slot (R74). -/
structure HeldCard where
  cardClass : CardClass
  source : CardSource
  digits : List Byte
  masked : List Byte
  expiry : Option (List Byte)
  presented : Nat
deriving DecidableEq, Repr

/-- The card slot with its lifetime timer in s (R80). -/
inductive Slot where
  | empty
  | presented (card : HeldCard) (timer : Nat)
  | read (card : HeldCard) (timer : Nat)
deriving DecidableEq, Repr

/-- Card outcomes in the order of Table 4-1. -/
inductive CardOutcome where
  | presented | attached | signedOn | signedOff | granted | cleared | slotExpired | check | format | noRange
  | length | luhn | expired | long | timeout | noTicket | slotBusy | alreadyAttached | ticketActive
  | otherOperator
deriving DecidableEq, Repr

/-- The last-outcome record (R77). -/
structure OutcomeRecord where
  number : Nat
  outcome : CardOutcome
  cardClass : Option CardClass
  source : Option CardSource
  masked : Option (List Byte)
deriving DecidableEq, Repr

/-- The Card Unit. -/
structure Card where
  assembler : ReaderAssembler
  charTimer : Option Nat
  answers : List Answer
  sending : Option AnswerInFlight
  slot : Slot
  last : Option OutcomeRecord
  outcomeNumber : Nat
deriving DecidableEq, Repr

/-! ## Operator Unit (chapter 5) -/

/-- The source of a sign-on (R86). -/
inductive SignSource where
  | card | link
deriving DecidableEq, Repr

/-- A signed-on operator (R86). -/
structure Operator where
  number : Nat
  source : SignSource
deriving DecidableEq, Repr

/-- An active grant with its timer in s (R90). -/
structure Grant where
  supervisor : Nat
  timer : Nat
deriving DecidableEq, Repr

/-- The Operator Unit: SIGNED_OFF and NONE are `none`. -/
structure Staff where
  operator : Option Operator
  grant : Option Grant
deriving DecidableEq, Repr

/-- The actions that consume a grant, in the order of Table 5-1. -/
inductive GrantAction where
  | voidLine | abandon | waiveReceipt | forceClose | noSale
deriving DecidableEq, Repr

/-! ## Ticket Unit (chapters 6 and 7) -/

/-- Ticket states in the order of R115. -/
inductive TicketState where
  | idle | opened | tendering | settled
deriving DecidableEq, Repr

/-- The states in which a ticket record is present (R97). -/
inductive Phase where
  | opened | tendering | settled
deriving DecidableEq, Repr

/-- The weight part of a WEIGHED line (R102). -/
structure WeightPart where
  net : Int
  gross : Int
  tare : Nat
  price : Nat
  base : PriceBase
  record : Nat
  calCount : Nat
deriving DecidableEq, Repr

/-- The kind of a line with the fields only that kind has (R102). -/
inductive LineBody where
  | weighed (part : WeightPart)
  | keyed (quantity : Option Nat)
  | void (target : Nat)
deriving DecidableEq, Repr

/-- A line record (R102). -/
structure Line where
  number : Nat
  item : Nat
  amount : Int
  voided : Bool
  body : LineBody
deriving DecidableEq, Repr

/-- Kinds of tender (R118). -/
inductive TenderKind where
  | cash | card | gift | other
deriving DecidableEq, Repr

/-- A tender record (section 7.1). -/
structure Tender where
  kind : TenderKind
  amount : Nat
  reference : Option (List Byte)
  masked : Option (List Byte)
deriving DecidableEq, Repr

/-- The ticket record with, from settlement on, the receipt latch and the conditions as last
evaluated (R126, R127). -/
structure Ticket where
  phase : Phase
  number : Nat
  operator : Nat
  loyalty : Option (List Byte)
  lines : List Line
  tenders : List Tender
  total : Int
  rounding : Int
  change : Int
  checkMatched : Bool
  authorizationRaised : Bool
  receiptWaived : Bool
  forced : Bool
  receiptLatch : Bool
  receiptMet : Bool
  jobsMet : Bool
  drawerMet : Bool
deriving DecidableEq, Repr

/-- The Ticket Unit: `current` is absent exactly in IDLE (R97). -/
structure TicketUnit where
  current : Option Ticket
  next : Nat
deriving DecidableEq, Repr

/-! ## Lane Journal (chapter 8) -/

/-- Reset kinds in the order of R201. -/
inductive ResetKind where
  | powerOn | resetLine | laneReset | reload
deriving DecidableEq, Repr

/-- What caused a drawer authorization, with the ticket number or the supervisor number (R145). -/
inductive AuthCause where
  | cash | noSale
deriving DecidableEq, Repr

/-- Why an authorization was dropped (Table 8-2). -/
inductive DropCause where
  | laneReset | forceClose
deriving DecidableEq, Repr

/-- Why a ticket was abandoned (Table 8-2). -/
inductive AbandonCause where
  | request | laneReset
deriving DecidableEq, Repr

/-- The fields of a TICKET_CLOSED entry (Table 8-2). -/
structure ClosedEntry where
  ticket : Nat
  total : Int
  rounding : Int
  change : Int
  tenders : Nat
  cashSum : Nat
  nonCashSum : Nat
  lines : Nat
  weighedLines : Nat
  loyalty : Bool
  waived : Bool
  forced : Bool
deriving DecidableEq, Repr

/-- The kinds of entry with their fields, in the order of Tables 8-1 and 8-2. -/
inductive EntryBody where
  | ticketClosed (e : ClosedEntry)
  | ticketAbandoned (ticket : Nat) (total : Int) (lines : Nat) (cause : AbandonCause) (supervisor : Option Nat)
  | drawerOpened (cause : AuthCause) (number : Nat) (manual alreadyOpen : Bool) (attempts : Nat)
  | drawerSkipped (cause : AuthCause) (number : Nat)
  | drawerForced
  | drawerLeftOpen
  | drawerAuthDropped (drop : DropCause) (cause : AuthCause) (number : Nat)
  | grantUsed (action : GrantAction) (supervisor : Nat)
  | signOn (source : SignSource)
  | signOff (source : SignSource)
  | metroSaved (count : Nat) (ok : Bool)
  | settingsSaved (ok : Bool)
  | start (kind : ResetKind) (metroValid settingsValid : Bool) (reloaded : Option Area)
deriving DecidableEq, Repr

/-- A journal entry with its common fields (R139). -/
structure Entry where
  sequence : Nat
  time : Nat
  operator : Nat
  body : EntryBody
deriving DecidableEq, Repr

/-- The Lane Journal (R134, R136); the ring is oldest first. -/
structure Journal where
  ring : List Entry
  next : Nat
  wrapped : Bool
  clock : Option Nat
deriving DecidableEq, Repr

/-! ## Drawer Unit and Lamp Driver (chapter 9) -/

/-- Drawer states in the order of R156. -/
inductive DrawerState where
  | closed | unlatching | confirming | opened | jammed | disabled
deriving DecidableEq, Repr

/-- An opening authorization (R145). -/
structure Authorization where
  cause : AuthCause
  number : Nat
deriving DecidableEq, Repr

/-- The Drawer Unit. `levelClosed` is the debounced sensor level (R144). -/
structure Drawer where
  state : DrawerState
  auth : Option Authorization
  attempts : Nat
  forced : Bool
  alarm : Bool
  levelClosed : Bool
  pulseTimer : Option Nat
  confirmTimer : Option Nat
  leftOpenTimer : Option Nat
  debounceTimer : Option Nat
deriving DecidableEq, Repr

/-- Attendant call reasons in the order of Table 9-1. -/
inductive CallReason where
  | supervisorNeeded | drawerJammed | drawerForced | drawerLeftOpen | paperOut | scaleFault
deriving DecidableEq, Repr

/-- Lamp sources in the order of R158. -/
inductive LampSource where
  | off | on | callSteady | callFlash | drawerOpen | ticketActive | scaleNotReady | paper | laneReady
deriving DecidableEq, Repr

/-- The Lamp Driver: the reason set, in the order of Table 9-1, and the flash phase of each lamp
(`true` is the half in which a flashing lamp is on). The line levels follow from these and from the
other units (`lampLine`). -/
structure Lamps where
  reasons : List CallReason
  phaseA : Bool
  phaseB : Bool
deriving DecidableEq, Repr

/-! ## Print Unit (chapter 10) -/

/-- Stall reasons in the order of R191. -/
inductive Stall where
  | paperOut | coverOpen | headHot | printerFault | notResponding | portOff | printerAbsent
deriving DecidableEq, Repr

/-- States of a job that has not ended (Table 10-1). -/
inductive JobState where
  | loading | queued | printing | waitingData | held | stalled
deriving DecidableEq, Repr

/-- How a job ends (R175). -/
inductive JobEnd where
  | done | failed | cancelled
deriving DecidableEq, Repr

/-- A position: an index in the job's own list, or an index in a fragment. A position in a fragment carries the
content its CALL read: the retained copy of R170. -/
inductive Position where
  | own (index : Nat)
  | fragment (number index : Nat) (content : List Segment)
deriving DecidableEq, Repr

/-- A print job that has not ended (section 10). `ticket` is the binding; `reply` is the accepted SUBMIT that waits
for the end; the call stack has its newest return position first; `restart` holds from a restart report
until the segment is handed again or, rendered to nothing, passed (R171, R174). -/
structure Job where
  number : Nat
  ticket : Option Nat
  stream : Bool
  submitted : Bool
  reply : Option Admitted
  state : JobState
  segments : List Segment
  position : Position
  stack : List Position
  missingFragment : Bool
  missingLine : Bool
  printedTotal : Bool
  stall : Option Stall
  restart : Bool
deriving DecidableEq, Repr

/-- The Print Unit: the queue in order of JOB OPEN and the print order list as job numbers. The pool's free
blocks follow from the queue (R165). -/
structure Print where
  jobs : List Job
  next : Nat
  order : List Nat
deriving DecidableEq, Repr

/-! ## Printer Port (chapter 11) -/

/-- Port modes in the order of R191. -/
inductive PortMode where
  | compat | block | status
deriving DecidableEq, Repr

/-- Printer presence in the order of R191. -/
inductive Presence where
  | unknown | present | absent
deriving DecidableEq, Repr

/-- The six meaningful bits of the last status byte (Table 1-9). -/
structure PrinterStatus where
  paperOut : Bool
  paperLow : Bool
  coverOpen : Bool
  headHot : Bool
  fault : Bool
  blockCapable : Bool
deriving DecidableEq, Repr

/-- A byte on its way to the printer with the CODE mark of R181. -/
structure PortByte where
  byte : Byte
  code : Bool
deriving DecidableEq, Repr

/-- Where the byte awaiting acceptance came from. `stop` is the line discard a stop sends (R190), `discard` one that was
pending (R182, R185). -/
inductive ByteSource where
  | discard | stop | segment | fifo
deriving DecidableEq, Repr

/-- The byte the port has ready; `offered` once it stands on D7..D0 with STROBE asserted (R180). -/
structure CurrentByte where
  byte : PortByte
  source : ByteSource
  offered : Bool
deriving DecidableEq, Repr

/-- What the Print Unit hands the port: printer bytes, or a raster segment, whose bytes depend on the
capability when the port begins it (R182). -/
inductive Handed where
  | bytes (bs : List Byte)
  | raster (width : Nat) (rows : List (List Byte))
deriving DecidableEq, Repr

/-- The segment in transfer, or waiting while `begun` is clear. `ahead` are bytes for COMPAT not yet made ready,
`coded` are bytes for BLOCK not yet loaded into the FIFO, `offered` tells that a byte of the segment has
been offered, `accepted` counts its accepted bytes. -/
structure Transfer where
  content : Handed
  begun : Bool
  ahead : List Byte
  coded : List PortByte
  offered : Bool
  accepted : Nat
deriving DecidableEq, Repr

/-- What made a status read due (R184), as far as R187 asks: a busy-timer expiry or anything else. -/
inductive ReadCause where
  | busyTimer | other
deriving DecidableEq, Repr

/-- The Printer Port. The FIFO's head stays in it until the printer accepts it. -/
structure Port where
  mode : PortMode
  fifo : List PortByte
  fifoError : Bool
  presence : Presence
  capable : Bool
  status : PrinterStatus
  stall : Option Stall
  segment : Option Transfer
  current : Option CurrentByte
  discardPending : Bool
  stopping : Bool
  reading : Option ReadCause
  due : Option ReadCause
  busyTimer : Option Nat
  pollTimer : Option Nat
deriving DecidableEq, Repr

/-! ## Settings Store (chapter 12) -/

/-- The METRO area: the metrology items 40..50 and the calibration points (Table 12-1, R30). -/
structure Metro where
  max1 : Nat
  max2 : Nat
  d1 : Nat
  d2 : Nat
  filterLength : Nat
  motionWindow : Nat
  motionBand : Nat
  powerUpZero : Nat
  zeroSetting : Nat
  zeroTracking : Bool
  sampleTimeout : Nat
  points : List CalPoint
deriving DecidableEq, Repr

/-- The SETTINGS area: items 1..30, the tare table (entry of code n at index n-1), the card range table and
the fragments (fragment n at index n-1). -/
structure Settings where
  laneOverride : Nat
  rateOverride : Nat
  gapLimit : Nat
  errorThreshold : Nat
  readerRate : Nat
  readerLimit : Nat
  slotLifetime : Nat
  grantWindow : Nat
  cardSignOn : Bool
  totalCheck : Bool
  closedDrawer : Bool
  roundingStep : Nat
  currencyDecimals : Nat
  pulseWidth : Nat
  confirmWindow : Nat
  retries : Nat
  debounce : Nat
  leftOpenLimit : Nat
  lampA : LampSource
  lampB : LampSource
  scaleEnable : Bool
  cardEnable : Bool
  drawerEnable : Bool
  printerEnable : Bool
  printWidth : Nat
  busyLimit : Nat
  captureWait : Nat
  motionWait : Nat
  tareAutoClear : Bool
  settingsLock : Bool
  tares : List (Option Nat)
  ranges : List RangeEntry
  fragments : List (List Segment)
deriving DecidableEq, Repr

/-- A stored area or cell with its check (R193). -/
structure Stored (α : Type) where
  contents : α
  check : CheckWord
deriving DecidableEq, Repr

/-- A save in flight: the request it answers, the RAM area as it stood at taking, and for METRO the
counter value it carries (R196). -/
structure Saving (α : Type) where
  who : Admitted
  image : α
  count : Nat
deriving DecidableEq, Repr

/-- The Settings Store. `putOff` is the revert decision put off by a save in flight (R195). -/
structure Store where
  metro : Metro
  settings : Settings
  storedMetro : Stored Metro
  storedSettings : Stored Settings
  counterCell : Stored Nat
  metroValid : Bool
  settingsValid : Bool
  metroChanged : Bool
  counter : Nat
  savingMetro : Option (Saving Metro)
  savingSettings : Option (Saving Settings)
  putOff : Bool
  lastReset : ResetKind
deriving DecidableEq, Repr

/-! ## The model's own fields for remaining times -/

/-- What the model holds of a timer whose remaining time a notice reports: how often it has been started, and the seconds it
had left when they were last reported, at its start its whole length (R84, R95; notes/assumptions/2.md). -/
structure Countdown where
  starts : Nat
  left : Nat
deriving DecidableEq, Repr

/-- The count of the free values read, and the countdowns of the slot lifetime and of the grant window. -/
structure Draws where
  read : Nat
  slot : Countdown
  grant : Countdown
deriving DecidableEq, Repr

/-! ## The whole state -/

/-- The state of the LH-440. `draws` is the model's own field for the remaining times notices report
(notes/assumptions/2.md); `pending` is the queue of commands that are waiting, first in, first out. -/
structure State where
  power : Power
  pins : Pins
  straps : Straps
  link : Link
  scale : Scale
  card : Card
  staff : Staff
  ticket : TicketUnit
  journal : Journal
  drawer : Drawer
  lamps : Lamps
  print : Print
  port : Port
  store : Store
  draws : Draws
  pending : List Instr
deriving DecidableEq, Repr

/-- The reasons a step can stop with a fault: none. The manual ends no command in a fault of the part; every
trouble it describes is a state, a result code or a notice. -/
inductive Fault where
deriving DecidableEq, Repr

/-- The reasons a step can be refused. -/
inductive Refusal where
  /-- Raised by `exec` alone, for a row that has no meaning yet. Safe: the machine stops where the part goes on. -/
  | notModelled (mnemonic : String)
deriving DecidableEq, Repr

/-! ## Updates of one unit -/

/-- Replaces the supply state. -/
def State.setPower (s : State) (x : Power) : State := { s with power := x }
/-- Replaces the input levels. -/
def State.setPins (s : State) (x : Pins) : State := { s with pins := x }
/-- Replaces the straps read. -/
def State.setStraps (s : State) (x : Straps) : State := { s with straps := x }
/-- Replaces the Link Interface. -/
def State.setLink (s : State) (x : Link) : State := { s with link := x }
/-- Replaces the Scale Unit. -/
def State.setScale (s : State) (x : Scale) : State := { s with scale := x }
/-- Replaces the Card Unit. -/
def State.setCard (s : State) (x : Card) : State := { s with card := x }
/-- Replaces the Operator Unit. -/
def State.setStaff (s : State) (x : Staff) : State := { s with staff := x }
/-- Replaces the Ticket Unit. -/
def State.setTicket (s : State) (x : TicketUnit) : State := { s with ticket := x }
/-- Replaces the Lane Journal. -/
def State.setJournal (s : State) (x : Journal) : State := { s with journal := x }
/-- Replaces the Drawer Unit. -/
def State.setDrawer (s : State) (x : Drawer) : State := { s with drawer := x }
/-- Replaces the Lamp Driver. -/
def State.setLamps (s : State) (x : Lamps) : State := { s with lamps := x }
/-- Replaces the Print Unit. -/
def State.setPrint (s : State) (x : Print) : State := { s with print := x }
/-- Replaces the Printer Port. -/
def State.setPort (s : State) (x : Port) : State := { s with port := x }
/-- Replaces the Settings Store. -/
def State.setStore (s : State) (x : Store) : State := { s with store := x }
/-- Replaces the model's own field for remaining times. -/
def State.setDraws (s : State) (x : Draws) : State := { s with draws := x }
/-- Replaces the queue of waiting commands. -/
def State.setPending (s : State) (x : List Instr) : State := { s with pending := x }

/-! ## Defaults and reset values -/

/-- The METRO defaults (Table 12-1 and its notes). -/
def Metro.default : Metro where
  max1 := 6000
  max2 := 15000
  d1 := 2
  d2 := 5
  filterLength := 16
  motionWindow := 6
  motionBand := 1
  powerUpZero := 10
  zeroSetting := 2
  zeroTracking := true
  sampleTimeout := 100
  points := [⟨0, 0⟩, ⟨6000000, 15000000⟩]

/-- The SETTINGS defaults (Table 12-1 and its notes). -/
def Settings.default : Settings where
  laneOverride := 0
  rateOverride := 0
  gapLimit := 10
  errorThreshold := 32
  readerRate := 9600
  readerLimit := 50
  slotLifetime := 120
  grantWindow := 30
  cardSignOn := false
  totalCheck := true
  closedDrawer := true
  roundingStep := 1
  currencyDecimals := 2
  pulseWidth := 60
  confirmWindow := 500
  retries := 1
  debounce := 20
  leftOpenLimit := 60
  lampA := .callFlash
  lampB := .laneReady
  scaleEnable := true
  cardEnable := true
  drawerEnable := true
  printerEnable := true
  printWidth := 42
  busyLimit := 5000
  captureWait := 5000
  motionWait := 3000
  tareAutoClear := true
  settingsLock := false
  tares := List.replicate 32 none
  ranges := []
  fragments := List.replicate 32 []

/-- A channel after power-on (R10, R16). -/
def ChannelState.reset : ChannelState where
  unanswered := []
  overrun := false
  responses := []
  life := 63

/-- Every notice kind is owed when start-up ends (R14, R200). -/
def Owed.all : Owed := ⟨true, true, true, true, true, true, true, true, true⟩

/-- The Link Interface when start-up ends, with the effective rate and lane ID given (R1, R3, R5, R9, R10, R16). -/
def Link.reset (rate : Nat) (rateOverride : Bool) (lane : Nat) (laneOverride : Bool) : Link where
  assembler := .hunting
  gapTimer := none
  errorCount := 0
  degraded := false
  mgmt := ChannelState.reset
  scale := ChannelState.reset
  card := ChannelState.reset
  pay := ChannelState.reset
  ticket := ChannelState.reset
  print := ChannelState.reset
  drawer := ChannelState.reset
  owed := Owed.all
  sending := none
  rate := rate
  rateOverride := rateOverride
  lane := lane
  laneOverride := laneOverride
  nextId := 0

/-- The Scale Unit when start-up ends, in the state R43 gives (R43, R61). -/
def Scale.reset (state : ScaleState) (sampleTimer : Option Nat) : Scale where
  state := state
  window := []
  joined := 0
  latest := none
  weights := []
  stable := false
  zero := none
  zero0 := none
  tracking := 0
  zeroOutOfRange := false
  reading := none
  tare := none
  rearm := true
  nextRecord := 1
  op := none
  waiting := []
  sampleTimer := sampleTimer

/-- The Card Unit after power-on (R85). -/
def Card.reset : Card where
  assembler := .hunting
  charTimer := none
  answers := []
  sending := none
  slot := .empty
  last := none
  outcomeNumber := 0

/-- The Operator Unit after power-on (R96). -/
def Staff.reset : Staff := ⟨none, none⟩

/-- The Ticket Unit after power-on (R117). -/
def TicketUnit.reset : TicketUnit := ⟨none, 1⟩

/-- The Lane Journal at power-on, before START is written (R143). -/
def Journal.reset : Journal := ⟨[], 1, false, none⟩

/-- The Drawer Unit after power-on, in the state R159 gives. -/
def Drawer.reset (state : DrawerState) (levelClosed : Bool) (leftOpenTimer : Option Nat) : Drawer where
  state := state
  auth := none
  attempts := 0
  forced := false
  alarm := false
  levelClosed := levelClosed
  pulseTimer := none
  confirmTimer := none
  leftOpenTimer := leftOpenTimer
  debounceTimer := none

/-- The Lamp Driver after power-on (R157). -/
def Lamps.reset : Lamps := ⟨[], false, false⟩

/-- The Print Unit after power-on (R179). -/
def Print.reset : Print := ⟨[], 1, []⟩

/-- The Printer Port at power-on, before its capability read begins (R192). -/
def Port.reset : Port where
  mode := .compat
  fifo := []
  fifoError := false
  presence := .unknown
  capable := false
  status := ⟨false, false, false, false, false, false⟩
  stall := none
  segment := none
  current := none
  discardPending := false
  stopping := false
  reading := none
  due := none
  busyTimer := none
  pollTimer := none

/-- The Settings Store after the first power-on of a part whose nonvolatile store is blank: no check
passes, so both areas hold their defaults with their flags clear and the counter is 0 (R200). That the store
is blank, with check words of 0, is a DESIGN CHOICE (notes/assumptions/3.md). -/
def Store.reset : Store where
  metro := Metro.default
  settings := Settings.default
  storedMetro := ⟨Metro.default, 0#16⟩
  storedSettings := ⟨Settings.default, 0#16⟩
  counterCell := ⟨0, 0#16⟩
  metroValid := false
  settingsValid := false
  metroChanged := false
  counter := 0
  savingMetro := none
  savingSettings := none
  putOff := false
  lastReset := .powerOn

/-- No free value read and no timer started: the model's own field at reset (notes/assumptions/2.md). -/
def Draws.reset : Draws := ⟨0, ⟨0, 0⟩, ⟨0, 0⟩⟩

/-- The machine right after power-on: start-up has run (R200) with the straps at 0, the drawer closed, the CAL switch
open, CTS and RESET deasserted (the levels are a DESIGN CHOICE, notes/assumptions/4.md), START is journalled,
every notice is owed and the printer's capability read is in progress. -/
def State.reset : State where
  power := .running
  pins := ⟨false, true, false, false, false, false, false⟩
  straps := ⟨0, 0⟩
  link := Link.reset 115200 false 1 false
  scale := Scale.reset .uncalibrated (some 100)
  card := Card.reset
  staff := Staff.reset
  ticket := TicketUnit.reset
  journal := ⟨[⟨1, 0, 0, .start .powerOn false false none⟩], 2, false, none⟩
  drawer := Drawer.reset .closed true none
  lamps := Lamps.reset
  print := Print.reset
  port := { Port.reset with mode := .status, reading := some .other, busyTimer := some 5000 }
  store := Store.reset
  draws := Draws.reset
  pending := []

end Sys2Proof.Machine
end

