-- ==== Sys2Proof/WellFormed.lean ====
section
/-! DEFINITION. When an operand fits the field the manual gives it: widths of integers, lengths of
strings and lists, and the printable characters of strings (R13). Well-formed says nothing about the
narrower ranges of the chapters: a command outside those is well formed and is answered BAD_FIELD. -/

namespace Sys2Proof

/-- An unsigned field of `bits` bits. -/
def fitsUnsigned (bits n : Nat) : Bool := n < 2 ^ bits

/-- A signed field of `bits` bits in two's complement. -/
def fitsSigned (bits : Nat) (z : Int) : Bool := -(2 ^ (bits - 1) : Int) ≤ z && z < (2 ^ (bits - 1) : Int)

/-- A character a string may hold (R13). -/
def printable (b : Byte) : Bool := 0x20 ≤ b.toNat && b.toNat ≤ 0x7E

/-- A string field: its length byte can count it and every character is printable (R13). -/
def fitsString (cs : List Byte) : Bool := cs.length < 256 && cs.all printable

/-- A list field's count byte can count it (R13). -/
def fitsList {α : Type} (xs : List α) : Bool := xs.length < 256

/-- An optional unsigned field. -/
def fitsOptional (bits : Nat) : Option Nat → Bool
  | none => true
  | some n => fitsUnsigned bits n

/-- A segment fits its encoding (Table 10-2). -/
def Segment.fits : Segment → Bool
  | .text _ chars => fitsString chars
  | .raster width rows => fitsUnsigned 8 width && fitsList rows && rows.all (fun r => fitsList r)
  | .feed n => fitsUnsigned 8 n
  | .cut _ => true
  | .insert _ line => fitsUnsigned 8 line
  | .call f => fitsUnsigned 8 f

/-- A range entry fits the fields of RANGE INSERT (R78). -/
def RangeEntry.fits (e : RangeEntry) : Bool :=
  fitsUnsigned 32 e.low && fitsUnsigned 32 e.high && fitsUnsigned 8 e.minLength
    && fitsUnsigned 8 e.maxLength && fitsUnsigned 8 e.keepFirst && fitsUnsigned 8 e.keepLast

/-- A tender's fields fit (R118). -/
def TenderFields.fits (f : TenderFields) : Bool := fitsUnsigned 64 f.amount && fitsString f.reference

/-- Every field of a request fits the width its chapter gives it. -/
def Request.fits : Request → Bool
  | .readLinkStatus _ => true
  | .calPointSet f => fitsUnsigned 8 f.index && fitsSigned 32 f.point.count && fitsSigned 32 f.point.weight
  | .calPointDelete i => fitsUnsigned 8 i
  | .calPointRead i => fitsUnsigned 8 i
  | .setClock t => fitsUnsigned 32 t
  | .readJournal f => fitsUnsigned 32 f.first && fitsUnsigned 8 f.count
  | .getItem n => fitsUnsigned 8 n
  | .setItem f => fitsUnsigned 8 f.item && fitsUnsigned 32 f.value
  | .save _ => true
  | .reload _ => true
  | .laneReset => true
  | .tareSet f => fitsUnsigned 8 f.code && fitsOptional 32 f.value
  | .tareRead c => fitsUnsigned 8 c
  | .rangeInsert e => e.fits
  | .rangeDelete low => fitsUnsigned 32 low
  | .rangeRead i => fitsUnsigned 8 i
  | .rangeClear => true
  | .fragmentWrite f => fitsUnsigned 8 f.number && fitsList f.segments && f.segments.all Segment.fits
  | .fragmentClear n => fitsUnsigned 8 n
  | .fragmentRead f => fitsUnsigned 8 f.number && fitsUnsigned 8 f.first
  | .zero => true
  | .tare => true
  | .presetTare f => fitsUnsigned 8 f.code && fitsUnsigned 32 f.value
  | .clearTare => true
  | .weigh f => fitsUnsigned 32 f.item && fitsUnsigned 32 f.price && fitsUnsigned 16 f.wait
  | .readScale => true
  | .readCard => true
  | .clearCard => true
  | .openTicket => true
  | .setNextTicket n => fitsUnsigned 32 n
  | .keyedLine f => fitsUnsigned 32 f.item && fitsOptional 16 f.quantity && fitsSigned 32 f.amount
  | .voidLine n => fitsUnsigned 8 n
  | .readLine n => fitsUnsigned 8 n
  | .totalCheck z => fitsSigned 64 z
  | .abandon => true
  | .cash n => fitsUnsigned 64 n
  | .card f => f.fits
  | .gift f => f.fits
  | .other f => f.fits
  | .waiveReceipt => true
  | .forceClose => true
  | .signOn n => fitsUnsigned 32 n
  | .signOff => true
  | .jobOpen f => fitsUnsigned 32 f.ticket
  | .segment f => fitsUnsigned 8 f.job && f.segment.fits
  | .submit n => fitsUnsigned 8 n
  | .cancel n => fitsUnsigned 8 n
  | .noSale => true
  | .retry => true
  | .readDrawer => true

/-- A request row: its tag is a byte and its fields, when they decode, fit. -/
def fitsRequest (tag : Nat) (r : Option Request) : Bool :=
  fitsUnsigned 8 tag && (match r with | none => true | some r => r.fits)

/-- Every operand of a command fits: straps of 2 and 4 bits, a 24-bit sample, tags and fields. -/
def Instr.wellFormed : Instr → Bool
  | .powerOn lr lid => fitsUnsigned 2 lr && fitsUnsigned 4 lid
  | .resetLineAssert => true
  | .resetLineRelease lr lid => fitsUnsigned 2 lr && fitsUnsigned 4 lid
  | .ctsChange _ => true
  | .laneFrame _ => true
  | .frameOverlength _ => true
  | .gapTimerExpiry => true
  | .frameSent => true
  | .readLinkStatus tag f => fitsRequest tag (f.map .readLinkStatus)
  | .calPointSet tag f => fitsRequest tag (f.map .calPointSet)
  | .calPointDelete tag f => fitsRequest tag (f.map .calPointDelete)
  | .calPointRead tag f => fitsRequest tag (f.map .calPointRead)
  | .setClock tag f => fitsRequest tag (f.map .setClock)
  | .readJournal tag f => fitsRequest tag (f.map .readJournal)
  | .getItem tag f => fitsRequest tag (f.map .getItem)
  | .setItem tag f => fitsRequest tag (f.map .setItem)
  | .save tag f => fitsRequest tag (f.map .save)
  | .saveWriteEnd _ _ => true
  | .reload tag f => fitsRequest tag (f.map .reload)
  | .laneReset tag f => fitsRequest tag (f.map fun _ => .laneReset)
  | .tareSet tag f => fitsRequest tag (f.map .tareSet)
  | .tareRead tag f => fitsRequest tag (f.map .tareRead)
  | .rangeInsert tag f => fitsRequest tag (f.map .rangeInsert)
  | .rangeDelete tag f => fitsRequest tag (f.map .rangeDelete)
  | .rangeRead tag f => fitsRequest tag (f.map .rangeRead)
  | .rangeClear tag f => fitsRequest tag (f.map fun _ => .rangeClear)
  | .fragmentWrite tag f => fitsRequest tag (f.map .fragmentWrite)
  | .fragmentClear tag f => fitsRequest tag (f.map .fragmentClear)
  | .fragmentRead tag f => fitsRequest tag (f.map .fragmentRead)
  | .zero tag f => fitsRequest tag (f.map fun _ => .zero)
  | .tare tag f => fitsRequest tag (f.map fun _ => .tare)
  | .presetTare tag f => fitsRequest tag (f.map .presetTare)
  | .clearTare tag f => fitsRequest tag (f.map fun _ => .clearTare)
  | .weigh tag (.fields f) => fitsRequest tag (some (.weigh f))
  | .weigh tag (.bytes payload) => fitsRequest tag none && payload.length ≤ 1024
  | .readScale tag f => fitsRequest tag (f.map fun _ => .readScale)
  | .sampleArrival count _ _ => fitsSigned 24 count
  | .sampleTimerExpiry => true
  | .motionWaitExpiry => true
  | .captureWaitExpiry => true
  | .calSwitchChange _ => true
  | .readerRecord _ => true
  | .recordOverlong _ => true
  | .characterTimerExpiry => true
  | .readerAnswerSent => true
  | .slotLifetimeExpiry => true
  | .readCard tag f => fitsRequest tag (f.map fun _ => .readCard)
  | .clearCard tag f => fitsRequest tag (f.map fun _ => .clearCard)
  | .signOn tag f => fitsRequest tag (f.map .signOn)
  | .signOff tag f => fitsRequest tag (f.map fun _ => .signOff)
  | .grantTimerExpiry => true
  | .openTicket tag f => fitsRequest tag (f.map fun _ => .openTicket)
  | .setNextTicket tag f => fitsRequest tag (f.map .setNextTicket)
  | .keyedLine tag f => fitsRequest tag (f.map .keyedLine)
  | .voidLine tag f => fitsRequest tag (f.map .voidLine)
  | .readLine tag f => fitsRequest tag (f.map .readLine)
  | .totalCheck tag f => fitsRequest tag (f.map .totalCheck)
  | .abandon tag f => fitsRequest tag (f.map fun _ => .abandon)
  | .cash tag f => fitsRequest tag (f.map .cash)
  | .card tag f => fitsRequest tag (f.map .card)
  | .gift tag f => fitsRequest tag (f.map .gift)
  | .other tag f => fitsRequest tag (f.map .other)
  | .waiveReceipt tag f => fitsRequest tag (f.map fun _ => .waiveReceipt)
  | .forceClose tag f => fitsRequest tag (f.map fun _ => .forceClose)
  | .laneClockSecond => true
  | .noSale tag f => fitsRequest tag (f.map fun _ => .noSale)
  | .retry tag f => fitsRequest tag (f.map fun _ => .retry)
  | .readDrawer tag f => fitsRequest tag (f.map fun _ => .readDrawer)
  | .senseChange _ => true
  | .debounceTimerExpiry => true
  | .pulseTimerExpiry => true
  | .confirmTimerExpiry => true
  | .leftOpenTimerExpiry => true
  | .lampFlashToggle _ => true
  | .jobOpen tag f => fitsRequest tag (f.map .jobOpen)
  | .segment tag f => fitsRequest tag (f.map .segment)
  | .submit tag f => fitsRequest tag (f.map .submit)
  | .cancel tag f => fitsRequest tag (f.map .cancel)
  | .jobStart => true
  | .printerAck => true
  | .blockExit => true
  | .busyTimerExpiry => true
  | .printerLineChange _ _ => true
  | .pollTimerExpiry => true
  | .statusReadStart => true
  | .statusAnswer _ _ => true
  | .overlongRecordLrc _ => true
  | .busyDeasserted => true
  | .supplyLoss => true

end Sys2Proof
end

