-- ==== Sys2Proof/Machine/Wire.lean ====
section
/-! DEFINITION. The arithmetic of the manual's rounding terms, the check registers (R4, R193) and the payload
fields of R13, written and read. -/

namespace Sys2Proof.Machine

/-! ## Rounding (the four terms of "Conventions") -/

/-- `a ÷ d` to nearest, halves up (toward +∞ for signed values), for a positive `d`. -/
def roundHalfUp (a : Int) (d : Nat) : Int := (2 * a + d) / (2 * d)

/-- `a ÷ d` to nearest, halves away from zero, for a positive `d`. -/
def roundHalfAway (a : Int) (d : Nat) : Int :=
  if 0 ≤ a then (2 * a + d) / (2 * d) else -((2 * -a + d) / (2 * d))

/-- `a` to a multiple of `d`, halves up. -/
def toMultipleUp (a : Int) (d : Nat) : Int := roundHalfUp a d * d

/-- `a` to a multiple of `d`, halves away from zero. -/
def toMultipleAway (a : Int) (d : Nat) : Int := roundHalfAway a d * d

/-! ## Check registers -/

/-- One bit into a check register with generator 0x1021 (R4). -/
def checkBit (reg : CheckWord) (bit : Bool) : CheckWord :=
  if reg.msb != bit then (reg <<< 1) ^^^ 0x1021#16 else reg <<< 1

/-- One byte into a check register, from its most significant bit down (R4). -/
def checkByte (reg : CheckWord) (b : Byte) : CheckWord :=
  [7, 6, 5, 4, 3, 2, 1, 0].foldl (fun r i => checkBit r (b.getLsbD i)) reg

/-- Bytes into a check register, in order. -/
def checkBytes (reg : CheckWord) (bs : List Byte) : CheckWord := bs.foldl checkByte reg

/-- The seed of the lane frame check for an effective lane ID (R4). -/
def frameSeed (lane : Nat) : CheckWord := 0x5A00#16 + BitVec.ofNat 16 lane

/-- The check of a lane frame over its six header bytes and its payload: the ones' complement of the
register (R4). -/
def frameCheck (lane : Nat) (header payload : List Byte) : CheckWord :=
  ~~~ checkBytes (frameSeed lane) (header ++ payload)

/-- The check of a stored area or cell over its contents: start value 0xFFFF, ones' complement (R193). -/
def areaCheck (contents : List Byte) : CheckWord := ~~~ checkBytes 0xFFFF#16 contents

/-- The two check bytes as sent, high byte first (R4). -/
def checkHighFirst (c : CheckWord) : List Byte := [c.extractLsb' 8 8, c.extractLsb' 0 8]

/-! ## Writing fields (R13) -/

/-- `n` bytes, little-endian. -/
def writeLE : Nat → Nat → List Byte
  | 0, _ => []
  | n + 1, v => BitVec.ofNat 8 v :: writeLE n (v / 256)

/-- 8 bits. -/
def u8 (v : Nat) : List Byte := writeLE 1 v
/-- 16 bits. -/
def u16 (v : Nat) : List Byte := writeLE 2 v
/-- 32 bits. -/
def u32 (v : Nat) : List Byte := writeLE 4 v
/-- 64 bits. -/
def u64 (v : Nat) : List Byte := writeLE 8 v
/-- 32 bits in two's complement. -/
def i32 (z : Int) : List Byte := writeLE 4 (z % 2 ^ 32).toNat
/-- 64 bits in two's complement. -/
def i64 (z : Int) : List Byte := writeLE 8 (z % 2 ^ 64).toNat
/-- A yes/no field: no = 0, yes = 1. -/
def flag (b : Bool) : List Byte := u8 (if b then 1 else 0)
/-- A string: its length, then its characters. -/
def string (cs : List Byte) : List Byte := u8 cs.length ++ cs
/-- An optional field: a presence byte, then the field when present. -/
def optional {α : Type} (write : α → List Byte) : Option α → List Byte
  | none => u8 0
  | some a => u8 1 ++ write a
/-- A list: a count byte, then the entries. -/
def listOf {α : Type} (write : α → List Byte) (xs : List α) : List Byte :=
  u8 xs.length ++ (xs.map write).flatten

/-! ## Reading fields (R13)

A reader takes bytes off the front and gives the field and the rest, or `none` where the payload is
malformed. -/

/-- Reads `n` bytes, little-endian. -/
def readLE : Nat → List Byte → Option (Nat × List Byte)
  | 0, bs => some (0, bs)
  | _ + 1, [] => none
  | n + 1, b :: bs => (readLE n bs).map fun x => (b.toNat + 256 * x.1, x.2)

/-- Reads 8 bits. -/
def readU8 (bs : List Byte) : Option (Nat × List Byte) := readLE 1 bs
/-- Reads 16 bits. -/
def readU16 (bs : List Byte) : Option (Nat × List Byte) := readLE 2 bs
/-- Reads 32 bits. -/
def readU32 (bs : List Byte) : Option (Nat × List Byte) := readLE 4 bs
/-- Reads 64 bits. -/
def readU64 (bs : List Byte) : Option (Nat × List Byte) := readLE 8 bs

/-- The two's complement value of `bits` bits. -/
def signedOf (bits v : Nat) : Int := if v < 2 ^ (bits - 1) then (v : Int) else (v : Int) - 2 ^ bits

/-- Reads 32 bits in two's complement. -/
def readI32 (bs : List Byte) : Option (Int × List Byte) := (readLE 4 bs).map fun x => (signedOf 32 x.1, x.2)
/-- Reads 64 bits in two's complement. -/
def readI64 (bs : List Byte) : Option (Int × List Byte) := (readLE 8 bs).map fun x => (signedOf 64 x.1, x.2)

/-- Reads a choice as the position in the list that defines it; beyond the list is malformed. -/
def readChoice {α : Type} (choices : List α) (bs : List Byte) : Option (α × List Byte) :=
  match readU8 bs with
  | none => none
  | some (n, rest) => (choices[n]?).map fun a => (a, rest)

/-- Reads a yes/no field. -/
def readFlag (bs : List Byte) : Option (Bool × List Byte) := readChoice [false, true] bs

/-- Reads a string; a byte outside 0x20..0x7E is malformed. -/
def readString (bs : List Byte) : Option (List Byte × List Byte) :=
  match readU8 bs with
  | none => none
  | some (n, rest) =>
    if n ≤ rest.length && (rest.take n).all printable then some (rest.take n, rest.drop n) else none

/-- Reads an optional field; a presence byte other than 0 or 1 is malformed. -/
def readOptional {α : Type} (read : List Byte → Option (α × List Byte)) (bs : List Byte) :
    Option (Option α × List Byte) :=
  match readU8 bs with
  | some (0, rest) => some (none, rest)
  | some (1, rest) => (read rest).map fun x => (some x.1, x.2)
  | _ => none

/-- Reads `n` entries. -/
def readMany {α : Type} (read : List Byte → Option (α × List Byte)) : Nat → List Byte → Option (List α × List Byte)
  | 0, bs => some ([], bs)
  | n + 1, bs =>
    match read bs with
    | none => none
    | some (a, rest) => (readMany read n rest).map fun x => (a :: x.1, x.2)

/-- Reads a list. -/
def readList {α : Type} (read : List Byte → Option (α × List Byte)) (bs : List Byte) :
    Option (List α × List Byte) :=
  match readU8 bs with
  | none => none
  | some (n, rest) => readMany read n rest

/-- Reads `n` raw bytes. -/
def readBytes (n : Nat) (bs : List Byte) : Option (List Byte × List Byte) :=
  if n ≤ bs.length then some (bs.take n, bs.drop n) else none

/-- Reads a list of raw bytes. -/
def readByteList (bs : List Byte) : Option (List Byte × List Byte) :=
  match readU8 bs with
  | none => none
  | some (n, rest) => readBytes n rest

/-! ## Codes of results, reasons and choices -/

/-- The result byte (Table 1-4). -/
def Result.code : Result → Nat
  | .ok => 0 | .aborted => 1 | .busy => 2 | .rejected => 3 | .badField => 4 | .noGrant => 5 | .locked => 6
  | .full => 7 | .notFound => 8 | .unknownKind => 9 | .limit => 10 | .timeout => 11 | .fault => 12

/-- The reason byte (Table 1-5). -/
def Reason.code : Reason → Nat
  | .none => 0 | .calMode => 1 | .scaleState => 2 | .sameLoad => 3 | .tareActive => 4 | .tareRange => 5
  | .outOfZeroRange => 6 | .zeroOutOfRange => 7 | .notReady => 8 | .moving => 9 | .overload => 10
  | .underload => 11 | .belowMin => 12 | .aboveMax => 13 | .scaleFault => 14 | .overlap => 15 | .signedOn => 16
  | .cardRequired => 17 | .ticketState => 18 | .noOperator => 19 | .drawerBusy => 20 | .drawerOpen => 21
  | .notVoidable => 22 | .cardTendered => 23 | .totalUnchecked => 24 | .negativeTotal => 25 | .noCard => 26
  | .cardNotRead => 27 | .cardClass => 28 | .drawerState => 29 | .jobState => 30 | .nestLimit => 31
  | .metroInconsistent => 32 | .jobPrinting => 33

/-- The channel number (Table 1-2). -/
def channelNumber : Channel → Nat
  | .mgmt => 0 | .scale => 1 | .card => 2 | .pay => 3 | .ticket => 4 | .print => 5 | .drawer => 6

/-- The channel a number names; 7 and above name none (R8). -/
def channelOf : Nat → Option Channel
  | 0 => some .mgmt | 1 => some .scale | 2 => some .card | 3 => some .pay | 4 => some .ticket
  | 5 => some .print | 6 => some .drawer | _ => none

/-- The stored areas in the order of R196. -/
def areas : List Area := [.metro, .settings]
/-- Position of an area. -/
def areaCode : Area → Nat
  | .metro => 0 | .settings => 1
/-- Card classes in the order of R78. -/
def cardClasses : List CardClass := [.payment, .gift, .loyalty, .cashier, .supervisor]
/-- Position of a card class. -/
def cardClassCode : CardClass → Nat
  | .payment => 0 | .gift => 1 | .loyalty => 2 | .cashier => 3 | .supervisor => 4
/-- Bases in the order of R54. -/
def priceBases : List PriceBase := [.perKg, .per100g]
/-- Position of a base. -/
def priceBaseCode : PriceBase → Nat
  | .perKg => 0 | .per100g => 1
/-- TEXT styles in the order of Table 10-2. -/
def textStyles : List TextStyle := [.normal, .bold, .double]
/-- Position of a style. -/
def textStyleCode : TextStyle → Nat
  | .normal => 0 | .bold => 1 | .double => 2
/-- Cuts in the order of Table 10-2. -/
def cutKinds : List CutKind := [.partialCut, .fullCut]
/-- Position of a cut. -/
def cutKindCode : CutKind → Nat
  | .partialCut => 0 | .fullCut => 1
/-- INSERT fields in the order of Table 10-2. -/
def insertFields : List InsertField :=
  [.ticketNumber, .operator, .loyalty, .calCount, .line, .allWeighed, .total, .tenders, .change]
/-- Position of an INSERT field. -/
def insertFieldCode : InsertField → Nat
  | .ticketNumber => 0 | .operator => 1 | .loyalty => 2 | .calCount => 3 | .line => 4 | .allWeighed => 5
  | .total => 6 | .tenders => 7 | .change => 8

/-- The grams of a base (R54). -/
def baseGrams : PriceBase → Nat
  | .perKg => 1000 | .per100g => 100

/-- Text as printer and link characters. -/
def ascii (cs : List Char) : List Byte := cs.map fun c => BitVec.ofNat 8 c.toNat

/-- The decimal digits of `n` without leading zeros, at most `fuel + 1` of them. -/
def decimalDigits : Nat → Nat → List Byte
  | 0, n => [BitVec.ofNat 8 (0x30 + n % 10)]
  | fuel + 1, n =>
    if n < 10 then [BitVec.ofNat 8 (0x30 + n)]
    else decimalDigits fuel (n / 10) ++ [BitVec.ofNat 8 (0x30 + n % 10)]

/-- A number printed in decimal without separators or leading zeros (R171). -/
def decimal (n : Nat) : List Byte := decimalDigits 20 n

/-- A number printed with exactly `k` decimal digits. -/
def decimalPadded : Nat → Nat → List Byte
  | 0, _ => []
  | k + 1, n => decimalPadded k (n / 10) ++ [BitVec.ofNat 8 (0x30 + n % 10)]

/-- The value of a run of digit characters, leading zeros counted as digits (R70). -/
def digitsValue (ds : List Byte) : Nat := ds.foldl (fun v b => v * 10 + (b.toNat - 0x30)) 0

/-- A digit character '0'..'9'. -/
def isDigit (b : Byte) : Bool := 0x30 ≤ b.toNat && b.toNat ≤ 0x39

end Sys2Proof.Machine
end

