-- ==== Sys2Proof/Machine/Operands.lean ====
section
/-! DEFINITION. The operands of the commands as the lane link carries them: segments (Table 10-2), the payload of every
request kind read and written (R13, Table 1-10 and each request's chapter), and the ranges a field must lie in. -/

namespace Sys2Proof.Machine

/-! ## Segments -/

/-- The stored form of a segment: its encoding from the kind byte onward (section 10.3, Table 10-2). -/
def writeSegment : Segment → List Byte
  | .text style chars => u8 0 ++ u8 (textStyleCode style) ++ string chars
  | .raster width rows => u8 1 ++ u8 width ++ listOf string rows
  | .feed n => u8 2 ++ u8 n
  | .cut kind => u8 3 ++ u8 (cutKindCode kind)
  | .insert field line => u8 4 ++ u8 (insertFieldCode field) ++ u8 line
  | .call f => u8 5 ++ u8 f

/-- Reads a segment from its kind byte onward (Table 10-2). -/
def readSegment (bs : List Byte) : Option (Segment × List Byte) := do
  let (kind, bs) ← readU8 bs
  match kind with
  | 0 =>
    let (style, bs) ← readChoice textStyles bs
    let (chars, bs) ← readString bs
    some (.text style chars, bs)
  | 1 =>
    let (width, bs) ← readU8 bs
    let (rows, bs) ← readList readByteList bs
    some (.raster width rows, bs)
  | 2 =>
    let (n, bs) ← readU8 bs
    some (.feed n, bs)
  | 3 =>
    let (kind, bs) ← readChoice cutKinds bs
    some (.cut kind, bs)
  | 4 =>
    let (field, bs) ← readChoice insertFields bs
    let (line, bs) ← readU8 bs
    some (.insert field line, bs)
  | 5 =>
    let (f, bs) ← readU8 bs
    some (.call f, bs)
  | _ => none

/-- The stored length L of a segment (Table 10-2). -/
def storedLength (g : Segment) : Nat := (writeSegment g).length

/-- The pool blocks a segment occupies: ⌈L/60⌉ (R165). -/
def segmentBlocks (g : Segment) : Nat :=
  (storedLength g + Config.blockContent - 1) / Config.blockContent

/-- The blocks of a segment list. -/
def listBlocks (gs : List Segment) : Nat := (gs.map segmentBlocks).sum

/-- The bytes a coded raster row expands to, or `none` where a header lacks data (R164, Table 1-8); `fuel` bounds the
headers, and a row's own length is enough of it. -/
def expandCoded : Nat → List Byte → Option (List Byte)
  | _, [] => some []
  | 0, _ :: _ => none
  | fuel + 1, h :: rest =>
    if h.toNat < 0x80 then
      let n := h.toNat + 1
      if n ≤ rest.length then (expandCoded fuel (rest.drop n)).map fun x => rest.take n ++ x else none
    else
      match rest with
      | [] => none
      | b :: rest => (expandCoded fuel rest).map fun x => List.replicate (h.toNat - 0x7E) b ++ x

/-- The expansion of a coded row (R164). -/
def expandRow (row : List Byte) : Option (List Byte) := expandCoded row.length row

/-- A coded row with its header bytes marked for CODE (R181, R182). -/
def markCoded : Nat → List Byte → List PortByte
  | _, [] => []
  | 0, _ :: _ => []
  | fuel + 1, h :: rest =>
    let n := if h.toNat < 0x80 then h.toNat + 1 else 1
    ⟨h, true⟩ :: (rest.take n).map (fun b => ⟨b, false⟩) ++ markCoded fuel (rest.drop n)

/-- A coded row as the bytes BLOCK sends (R182). -/
def codedRow (row : List Byte) : List PortByte := markCoded row.length row

/-- A segment lies in the ranges of Table 10-2 and, for RASTER, every row expands to the row width (R164). -/
def segmentInRange : Segment → Bool
  | .text _ chars => 1 ≤ chars.length && chars.length ≤ 96 && chars.all printable
  | .raster width rows =>
    1 ≤ width && width ≤ 72 && 1 ≤ rows.length && rows.length ≤ 255
      && rows.all fun r => 1 ≤ r.length && r.length ≤ 255 && (expandRow r).map List.length == some width
  | .feed n => 1 ≤ n && n ≤ 255
  | .cut _ => true
  | .insert .line n => 1 ≤ n && n ≤ 99
  | .insert _ n => n == 0
  | .call f => 1 ≤ f && f ≤ 32

/-! ## Payloads of requests -/

/-- The channel of a request (Tables 1-2, 1-3). -/
def requestChannel : Request → Channel
  | .readLinkStatus _ | .calPointSet _ | .calPointDelete _ | .calPointRead _ | .setClock _ | .readJournal _
  | .getItem _ | .setItem _ | .save _ | .reload _ | .laneReset | .tareSet _ | .tareRead _ | .rangeInsert _
  | .rangeDelete _ | .rangeRead _ | .rangeClear | .fragmentWrite _ | .fragmentClear _ | .fragmentRead _ => .mgmt
  | .zero | .tare | .presetTare _ | .clearTare | .weigh _ | .readScale => .scale
  | .readCard | .clearCard => .pay
  | .openTicket | .setNextTicket _ | .keyedLine _ | .voidLine _ | .readLine _ | .totalCheck _ | .abandon
  | .cash _ | .card _ | .gift _ | .other _ | .waiveReceipt | .forceClose | .signOn _ | .signOff => .ticket
  | .jobOpen _ | .segment _ | .submit _ | .cancel _ => .print
  | .noSale | .retry | .readDrawer => .drawer

/-- The kind value of a request (Table 1-10). -/
def requestKind : Request → Nat
  | .readLinkStatus _ => 1 | .calPointSet _ => 2 | .calPointDelete _ => 3 | .calPointRead _ => 4
  | .setClock _ => 5 | .readJournal _ => 6 | .getItem _ => 7 | .setItem _ => 8 | .save _ => 9 | .reload _ => 10
  | .laneReset => 11 | .tareSet _ => 12 | .tareRead _ => 13 | .rangeInsert _ => 14 | .rangeDelete _ => 15
  | .rangeRead _ => 16 | .rangeClear => 17 | .fragmentWrite _ => 18 | .fragmentClear _ => 19
  | .fragmentRead _ => 20
  | .zero => 1 | .tare => 2 | .presetTare _ => 3 | .clearTare => 4 | .weigh _ => 5 | .readScale => 6
  | .readCard => 1 | .clearCard => 2
  | .openTicket => 1 | .setNextTicket _ => 2 | .keyedLine _ => 3 | .voidLine _ => 4 | .readLine _ => 5
  | .totalCheck _ => 6 | .abandon => 7 | .cash _ => 8 | .card _ => 9 | .gift _ => 10 | .other _ => 11
  | .waiveReceipt => 12 | .forceClose => 13 | .signOn _ => 14 | .signOff => 15
  | .jobOpen _ => 1 | .segment _ => 2 | .submit _ => 3 | .cancel _ => 4
  | .noSale => 1 | .retry => 2 | .readDrawer => 3

/-- A range entry in the field order of RANGE INSERT (R78). -/
def writeRangeEntry (e : RangeEntry) : List Byte :=
  u32 e.low ++ u32 e.high ++ u8 e.minLength ++ u8 e.maxLength ++ u8 (cardClassCode e.cardClass)
    ++ flag e.checkDigit ++ flag e.expiry ++ u8 e.keepFirst ++ u8 e.keepLast

/-- The payload of a request: its fields in the order its chapter lists them (R13). -/
def writeRequest : Request → List Byte
  | .readLinkStatus clear => flag clear
  | .calPointSet f => u8 f.index ++ i32 f.point.count ++ i32 f.point.weight
  | .calPointDelete i => u8 i
  | .calPointRead i => u8 i
  | .setClock t => u32 t
  | .readJournal f => u32 f.first ++ u8 f.count
  | .getItem n => u8 n
  | .setItem f => u8 f.item ++ u32 f.value
  | .save a => u8 (areaCode a)
  | .reload a => u8 (areaCode a)
  | .laneReset => []
  | .tareSet f => u8 f.code ++ optional u32 f.value
  | .tareRead c => u8 c
  | .rangeInsert e => writeRangeEntry e
  | .rangeDelete low => u32 low
  | .rangeRead i => u8 i
  | .rangeClear => []
  | .fragmentWrite f => u8 f.number ++ listOf writeSegment f.segments
  | .fragmentClear n => u8 n
  | .fragmentRead f => u8 f.number ++ u8 f.first
  | .zero => []
  | .tare => []
  | .presetTare f => u8 f.code ++ u32 f.value
  | .clearTare => []
  | .weigh f => u32 f.item ++ u32 f.price ++ u8 (priceBaseCode f.base) ++ flag f.post ++ u16 f.wait
  | .readScale => []
  | .readCard => []
  | .clearCard => []
  | .openTicket => []
  | .setNextTicket n => u32 n
  | .keyedLine f => u32 f.item ++ optional u16 f.quantity ++ i32 f.amount
  | .voidLine n => u8 n
  | .readLine n => u8 n
  | .totalCheck z => i64 z
  | .abandon => []
  | .cash n => u64 n
  | .card f => u64 f.amount ++ string f.reference
  | .gift f => u64 f.amount ++ string f.reference
  | .other f => u64 f.amount ++ string f.reference
  | .waiveReceipt => []
  | .forceClose => []
  | .signOn n => u32 n
  | .signOff => []
  | .jobOpen f => flag f.bound ++ u32 f.ticket ++ flag f.stream
  | .segment f => u8 f.job ++ writeSegment f.segment
  | .submit n => u8 n
  | .cancel n => u8 n
  | .noSale => []
  | .retry => []
  | .readDrawer => []

/-- A payload reader that takes no field. -/
def noField (r : Request) (bs : List Byte) : Option (Request × List Byte) := some (r, bs)

/-- A payload reader of one field. -/
def oneField {α : Type} (read : List Byte → Option (α × List Byte)) (make : α → Request) (bs : List Byte) :
    Option (Request × List Byte) :=
  (read bs).map fun x => (make x.1, x.2)

/-- Reads the fields of CAL POINT SET (R26). -/
def readCalPointSet (bs : List Byte) : Option (Request × List Byte) := do
  let (index, bs) ← readU8 bs
  let (count, bs) ← readI32 bs
  let (weight, bs) ← readI32 bs
  some (.calPointSet ⟨index, ⟨count, weight⟩⟩, bs)

/-- Reads the fields of READ JOURNAL (R141). -/
def readReadJournal (bs : List Byte) : Option (Request × List Byte) := do
  let (first, bs) ← readU32 bs
  let (count, bs) ← readU8 bs
  some (.readJournal ⟨first, count⟩, bs)

/-- Reads the fields of SET ITEM (R194). -/
def readSetItem (bs : List Byte) : Option (Request × List Byte) := do
  let (item, bs) ← readU8 bs
  let (value, bs) ← readU32 bs
  some (.setItem ⟨item, value⟩, bs)

/-- Reads the fields of TARE SET (R50). -/
def readTareSet (bs : List Byte) : Option (Request × List Byte) := do
  let (code, bs) ← readU8 bs
  let (value, bs) ← readOptional readU32 bs
  some (.tareSet ⟨code, value⟩, bs)

/-- Reads the fields of RANGE INSERT (R78). -/
def readRangeInsert (bs : List Byte) : Option (Request × List Byte) := do
  let (low, bs) ← readU32 bs
  let (high, bs) ← readU32 bs
  let (minLength, bs) ← readU8 bs
  let (maxLength, bs) ← readU8 bs
  let (cardClass, bs) ← readChoice cardClasses bs
  let (checkDigit, bs) ← readFlag bs
  let (expiry, bs) ← readFlag bs
  let (keepFirst, bs) ← readU8 bs
  let (keepLast, bs) ← readU8 bs
  some (.rangeInsert ⟨low, high, minLength, maxLength, cardClass, checkDigit, expiry, keepFirst, keepLast⟩, bs)

/-- Reads the fields of FRAGMENT WRITE (R176). -/
def readFragmentWrite (bs : List Byte) : Option (Request × List Byte) := do
  let (number, bs) ← readU8 bs
  let (segments, bs) ← readList readSegment bs
  some (.fragmentWrite ⟨number, segments⟩, bs)

/-- Reads the fields of FRAGMENT READ (R177). -/
def readFragmentRead (bs : List Byte) : Option (Request × List Byte) := do
  let (number, bs) ← readU8 bs
  let (first, bs) ← readU8 bs
  some (.fragmentRead ⟨number, first⟩, bs)

/-- Reads the fields of PRESET TARE (R48). -/
def readPresetTare (bs : List Byte) : Option (Request × List Byte) := do
  let (code, bs) ← readU8 bs
  let (value, bs) ← readU32 bs
  some (.presetTare ⟨code, value⟩, bs)

/-- Reads the fields of WEIGH (R54). -/
def readWeigh (bs : List Byte) : Option (Request × List Byte) := do
  let (item, bs) ← readU32 bs
  let (price, bs) ← readU32 bs
  let (base, bs) ← readChoice priceBases bs
  let (post, bs) ← readFlag bs
  let (wait, bs) ← readU16 bs
  some (.weigh ⟨item, price, base, post, wait⟩, bs)

/-- What a response echoes of the payload of a WEIGH, malformed or not: each of item code, U and base that the payload holds,
whatever follows it, and the free value for one that is cut off or, of the base, lies beyond its list (R13, R54, R59;
notes/assumptions/54.md). -/
def readEcho (free : WeighEcho) (payload : List Byte) : WeighEcho :=
  match readU32 payload with
  | none => free
  | some (item, bs) =>
    match readU32 bs with
    | none => { free with item := item }
    | some (price, bs) =>
      match readChoice priceBases bs with
      | none => { free with item := item, price := price }
      | some (base, _) => ⟨item, price, priceBaseCode base⟩

/-- Reads the fields of KEYED LINE (R104). -/
def readKeyedLine (bs : List Byte) : Option (Request × List Byte) := do
  let (item, bs) ← readU32 bs
  let (quantity, bs) ← readOptional readU16 bs
  let (amount, bs) ← readI32 bs
  some (.keyedLine ⟨item, quantity, amount⟩, bs)

/-- Reads the fields of CARD, GIFT and OTHER (R118). -/
def readTender (make : TenderFields → Request) (bs : List Byte) : Option (Request × List Byte) := do
  let (amount, bs) ← readU64 bs
  let (reference, bs) ← readString bs
  some (make ⟨amount, reference⟩, bs)

/-- Reads the fields of JOB OPEN (R161). -/
def readJobOpen (bs : List Byte) : Option (Request × List Byte) := do
  let (bound, bs) ← readFlag bs
  let (ticket, bs) ← readU32 bs
  let (stream, bs) ← readFlag bs
  some (.jobOpen ⟨bound, ticket, stream⟩, bs)

/-- Reads the fields of SEGMENT (R163). -/
def readSegmentRequest (bs : List Byte) : Option (Request × List Byte) := do
  let (job, bs) ← readU8 bs
  let (segment, bs) ← readSegment bs
  some (.segment ⟨job, segment⟩, bs)

/-- The payload reader of a request kind, or `none` for a kind that is not a request kind of the channel
(Table 1-10, R11). Every request on CARD is such a kind. -/
def payloadReader (ch : Channel) (kind : Nat) : Option (List Byte → Option (Request × List Byte)) :=
  match ch with
  | .mgmt =>
    match kind with
    | 1 => some (oneField readFlag .readLinkStatus)
    | 2 => some readCalPointSet
    | 3 => some (oneField readU8 .calPointDelete)
    | 4 => some (oneField readU8 .calPointRead)
    | 5 => some (oneField readU32 .setClock)
    | 6 => some readReadJournal
    | 7 => some (oneField readU8 .getItem)
    | 8 => some readSetItem
    | 9 => some (oneField (readChoice areas) .save)
    | 10 => some (oneField (readChoice areas) .reload)
    | 11 => some (noField .laneReset)
    | 12 => some readTareSet
    | 13 => some (oneField readU8 .tareRead)
    | 14 => some readRangeInsert
    | 15 => some (oneField readU32 .rangeDelete)
    | 16 => some (oneField readU8 .rangeRead)
    | 17 => some (noField .rangeClear)
    | 18 => some readFragmentWrite
    | 19 => some (oneField readU8 .fragmentClear)
    | 20 => some readFragmentRead
    | _ => none
  | .scale =>
    match kind with
    | 1 => some (noField .zero)
    | 2 => some (noField .tare)
    | 3 => some readPresetTare
    | 4 => some (noField .clearTare)
    | 5 => some readWeigh
    | 6 => some (noField .readScale)
    | _ => none
  | .card => none
  | .pay =>
    match kind with
    | 1 => some (noField .readCard)
    | 2 => some (noField .clearCard)
    | _ => none
  | .ticket =>
    match kind with
    | 1 => some (noField .openTicket)
    | 2 => some (oneField readU32 .setNextTicket)
    | 3 => some readKeyedLine
    | 4 => some (oneField readU8 .voidLine)
    | 5 => some (oneField readU8 .readLine)
    | 6 => some (oneField readI64 .totalCheck)
    | 7 => some (noField .abandon)
    | 8 => some (oneField readU64 .cash)
    | 9 => some (readTender .card)
    | 10 => some (readTender .gift)
    | 11 => some (readTender .other)
    | 12 => some (noField .waiveReceipt)
    | 13 => some (noField .forceClose)
    | 14 => some (oneField readU32 .signOn)
    | 15 => some (noField .signOff)
    | _ => none
  | .print =>
    match kind with
    | 1 => some readJobOpen
    | 2 => some readSegmentRequest
    | 3 => some (oneField readU8 .submit)
    | 4 => some (oneField readU8 .cancel)
    | _ => none
  | .drawer =>
    match kind with
    | 1 => some (noField .noSale)
    | 2 => some (noField .retry)
    | 3 => some (noField .readDrawer)
    | _ => none

/-- A payload that ends before its last field or goes on after it does not decode (R13). -/
def readWhole (read : List Byte → Option (Request × List Byte)) (payload : List Byte) : Option Request :=
  match read payload with
  | some (r, []) => some r
  | _ => none

/-! ## Ranges of request fields -/

/-- `n` lies in `lo..hi`. -/
def within (lo hi n : Nat) : Bool := lo ≤ n && n ≤ hi

/-- `z` lies in `lo..hi`. -/
def withinInt (lo hi z : Int) : Bool := lo ≤ z && z ≤ hi

/-- A range entry lies in the ranges of R69 (R78 step 1). -/
def rangeEntryInRange (e : RangeEntry) : Bool :=
  within 0 99999999 e.low && within e.low 99999999 e.high && within 12 19 e.minLength
    && within e.minLength 19 e.maxLength && within 0 8 e.keepFirst && within 0 4 e.keepLast
    && e.keepFirst + e.keepLast < e.minLength

/-- A reference of 1..12 characters (R118). -/
def referenceInRange (cs : List Byte) : Bool := within 1 12 cs.length && cs.all printable

/-- A card, gift or other tender's fields lie in the ranges of R118. -/
def tenderInRange (f : TenderFields) : Bool := within 1 9999999999 f.amount && referenceInRange f.reference

/-- Every field lies in the range its chapter states: outside it the request is malformed (R13). Values that a chapter
clamps or rounds instead (the WEIGH wait, the READ JOURNAL count) have no range here, nor do SET ITEM and GET ITEM,
whose rule R194 judges the item and its value. -/
def requestInRange : Request → Bool
  | .readLinkStatus _ => true
  | .calPointSet f =>
    within 0 7 f.index && withinInt (-8388608) 8388607 f.point.count
      && withinInt (-1000000) 70000000 f.point.weight
  | .calPointDelete i => within 0 7 i
  | .calPointRead i => within 0 7 i
  | .setClock t => within 1 Config.max32 t
  | .readJournal f => within 1 Config.max32 f.first
  | .getItem _ => true
  | .setItem _ => true
  | .save _ => true
  | .reload _ => true
  | .laneReset => true
  | .tareSet f => within 1 32 f.code && (match f.value with | none => true | some v => within 1 60000 v)
  | .tareRead c => within 1 32 c
  | .rangeInsert e => rangeEntryInRange e
  | .rangeDelete low => within 0 99999999 low
  | .rangeRead i => within 0 63 i
  | .rangeClear => true
  | .fragmentWrite f =>
    within 1 32 f.number && within 1 255 f.segments.length
      && f.segments.all fun g => segmentInRange g && storedLength g ≤ Config.fragmentReadBytes
  | .fragmentClear n => within 1 32 n
  | .fragmentRead f => within 1 32 f.number
  | .zero => true
  | .tare => true
  | .presetTare f => (within 1 32 f.code && f.value == 0) || (f.code == 0 && within 1 60000 f.value)
  | .clearTare => true
  | .weigh f => within 1 999999 f.item && within 0 999999 f.price
  | .readScale => true
  | .readCard => true
  | .clearCard => true
  | .openTicket => true
  | .setNextTicket n => within 1 999999 n
  | .keyedLine f =>
    within 0 999999999 f.item && (match f.quantity with | none => true | some q => within 1 9999 q)
      && withinInt (-999999999) 999999999 f.amount
  | .voidLine n => within 1 99 n
  | .readLine n => within 1 99 n
  | .totalCheck z => withinInt (-Config.maxTotal) Config.maxTotal z
  | .abandon => true
  | .cash n => within 0 9999999999 n
  | .card f => tenderInRange f
  | .gift f => tenderInRange f
  | .other f => tenderInRange f
  | .waiveReceipt => true
  | .forceClose => true
  | .signOn n => within 1 999999 n
  | .signOff => true
  | .jobOpen f => if f.bound then within 1 999999 f.ticket else f.ticket == 0
  | .segment f => segmentInRange f.segment
  | .submit _ => true
  | .cancel _ => true
  | .noSale => true
  | .retry => true
  | .readDrawer => true

/-- The fields of a request that is not malformed (R13): its form decodes and its fields lie in their ranges. -/
def wellFormedRequest (r : Option Request) : Option Request :=
  match r with
  | none => none
  | some r => if requestInRange r then some r else none

end Sys2Proof.Machine
end

