-- ==== Sys2Proof/Machine/Flags.lean ====
section
/-! DEFINITION. What follows from the state without changing it: the conditions the chapters judge, the outputs, the
lamps, and the snapshots of the nine notices with their encodings. -/

namespace Sys2Proof.Machine

/-! ## Metrology (R30) -/

/-- The metrology is consistent (R30). -/
def consistent (m : Metro) : Bool :=
  2 ≤ m.points.length && m.max1 ≤ m.max2 && m.d1 ≤ m.d2 && m.d2 % m.d1 == 0
    && (m.max1 != m.max2 || m.d2 == m.d1)

/-- The metrology is usable: consistent, and METRO valid (R30). -/
def usable (s : State) : Bool := consistent s.store.metro && s.store.metroValid

/-- CAL mode holds while the CAL switch is closed (R40). -/
def calMode (s : State) : Bool := s.pins.calClosed

/-! ## The ticket -/

/-- The ticket state (R97). -/
def ticketState (s : State) : TicketState :=
  match s.ticket.current with
  | none => .idle
  | some t => match t.phase with
    | .opened => .opened
    | .tendering => .tendering
    | .settled => .settled

/-- The ticket is IDLE. -/
def idle (s : State) : Bool := s.ticket.current.isNone

/-- The sum of tender amounts. -/
def tenderSum (ts : List Tender) : Nat := (ts.map (·.amount)).sum

/-- A CASH tender. -/
def isCash (t : Tender) : Bool := t.kind == .cash

/-- The sum of the CASH tenders (R123). -/
def cashSum (t : Ticket) : Nat := tenderSum (t.tenders.filter isCash)

/-- The sum of the other tenders (R128). -/
def nonCashSum (t : Ticket) : Nat := tenderSum (t.tenders.filter fun x => !isCash x)

/-- The amount due: total minus tenders; 0 once settled (section 7.1, R115, R123). -/
def amountDue (t : Ticket) : Int :=
  match t.phase with
  | .settled => 0
  | _ => t.total - tenderSum t.tenders

/-- A line of kind WEIGHED. -/
def isWeighed (l : Line) : Bool := match l.body with
  | .weighed _ => true
  | _ => false

/-- A line of kind VOID. -/
def isVoidLine (l : Line) : Bool := match l.body with
  | .void _ => true
  | _ => false

/-- The weighed line count, voided ones included (R115). -/
def weighedCount (t : Ticket) : Nat := (t.lines.filter isWeighed).length

/-- The receipt condition (R126). -/
def receiptCondition (t : Ticket) : Bool := t.receiptLatch || t.receiptWaived

/-- The jobs condition of a ticket number: no bound job has not ended (R126). -/
def jobsCondition (s : State) (number : Nat) : Bool := s.print.jobs.all fun j => j.ticket != some number

/-- The Drawer Unit holds the authorization of this ticket (R126, R130). -/
def holdsTicketAuth (s : State) (number : Nat) : Bool := s.drawer.auth == some ⟨.cash, number⟩

/-- The drawer condition of a ticket number (R126). -/
def drawerCondition (s : State) (number : Nat) : Bool :=
  !s.store.settings.drawerEnable || (!holdsTicketAuth s number && s.drawer.state == .closed)

/-! ## Printing -/

/-- The segment at a position, or `none` past the end of its list (R167). -/
def segmentAt (j : Job) : Option Segment :=
  match j.position with
  | .own i => j.segments[i]?
  | .fragment _ i content => content[i]?

/-- The position moved on by one segment. -/
def nextPosition : Position → Position
  | .own i => .own (i + 1)
  | .fragment n i content => .fragment n (i + 1) content

/-- The job with a number. -/
def findJob (p : Print) (n : Nat) : Option Job := p.jobs.find? fun j => j.number == n

/-- The first job of the print order list. -/
def firstJob (p : Print) : Option Job :=
  match p.order with
  | [] => none
  | n :: _ => findJob p n

/-- The printing job: the first job of the list once it has started (R162). -/
def printingJob (p : Print) : Option Job :=
  match firstJob p with
  | none => none
  | some j => match j.state with
    | .loading | .queued => none
    | _ => some j

/-- The blocks in use: those of the segment lists of jobs not yet ended (R165). -/
def usedBlocks (p : Print) : Nat := (p.jobs.map fun j => listBlocks j.segments).sum

/-- The free blocks of the pool (R165). -/
def freeBlocks (p : Print) : Nat := Config.poolBlocks - usedBlocks p

/-- The port is free of the previous job's bytes (R183). -/
def portFree (p : Port) : Bool := p.segment.isNone && p.current.isNone && !p.stopping

/-- The stall reason held by the printing job, or by the port while no printing job exists (R158). -/
def heldStall (s : State) : Option Stall :=
  match printingJob s.print with
  | some j => j.stall
  | none => s.port.stall

/-! ## Outputs and lamps -/

/-- SOL is asserted for the length of a pulse (R146), and deasserted while the part does not run (R200). -/
def solAsserted (s : State) : Bool := s.power == .running && s.drawer.state == .unlatching

/-- STROBE is asserted with a byte offered (R180) and during a status read (R187). -/
def strobeAsserted (s : State) : Bool :=
  s.power == .running && (s.port.reading.isSome || (match s.port.current with
    | some c => c.offered
    | none => false))

/-- CODE is asserted while the byte offered is a raster header byte (R181). -/
def codeAsserted (s : State) : Bool :=
  s.power == .running && (match s.port.current with
    | some c => c.offered && c.byte.code
    | none => false)

/-- DIR is reverse in STATUS and forward in COMPAT and BLOCK (R180, R187); while the part does not run R200 states no level for
it, and a free value stands (notes/assumptions/55.md). -/
def dirReverse (s : State) : Bool :=
  match s.power with
  | .running => s.port.mode == .status
  | _ => (Config.heldLines s.draws.read).1

/-- The byte the port drives on D7..D0, when it drives one (R180); while the part does not run R200 does not say, and a free
value stands (notes/assumptions/55.md). -/
def dataLines (s : State) : Option Byte :=
  match s.power, s.port.current with
  | .running, some c => if c.offered then some c.byte.byte else none
  | .running, none => none
  | _, _ => (Config.heldLines s.draws.read).2

/-- TXD idles unless a frame is in transmission (R200). -/
def txdActive (s : State) : Bool := s.link.sending.isSome

/-- The attendant call is active (R157). -/
def callActive (s : State) : Bool := !s.lamps.reasons.isEmpty

/-- The source of a lamp (R158). -/
def lampSource (s : State) : Lamp → LampSource
  | .lampA => s.store.settings.lampA
  | .lampB => s.store.settings.lampB

/-- The flash phase of a lamp. -/
def lampPhase (s : State) : Lamp → Bool
  | .lampA => s.lamps.phaseA
  | .lampB => s.lamps.phaseB

/-- The condition of a source, with CALL_FLASH taken as the call itself (R158). -/
def sourceActive (s : State) : LampSource → Bool
  | .off => false
  | .on => true
  | .callSteady => callActive s
  | .callFlash => callActive s
  | .drawerOpen => s.drawer.state == .opened
  | .ticketActive => !idle s
  | .scaleNotReady => s.scale.state != .ready
  | .paper => s.port.status.paperLow || s.port.status.paperOut
  | .laneReady =>
    s.scale.state == .ready && (heldStall s).isNone && s.drawer.state == .closed && s.staff.operator.isSome

/-- The level of a lamp line (R158); off while the part does not run (R200). -/
def lampLine (s : State) (lamp : Lamp) : Bool :=
  s.power == .running && sourceActive s (lampSource s lamp)
    && (lampSource s lamp != .callFlash || lampPhase s lamp)

/-- How a lamp is reported (R156, R158). -/
inductive LampReport where
  | off | on | flashing
deriving DecidableEq, Repr

/-- A flashing lamp is reported FLASHING in both halves of its cycle (R158). -/
def lampReport (s : State) (lamp : Lamp) : LampReport :=
  if sourceActive s (lampSource s lamp) then
    if lampSource s lamp == .callFlash then .flashing else .on
  else .off

/-! ## Snapshots -/

/-- SCALE_STATE (R41). -/
structure ScaleSnapshot where
  state : ScaleState
  calMode : Bool
  gross : Int
  tare : Option Tare
  net : Int
  range : Nat
  stable : Bool
  overload : Bool
  underload : Bool
  centre : Bool
  rearm : Bool
  reason : Reason
  filtered : Option Int
deriving DecidableEq, Repr

/-- CARD_STATE but for the lifetime remaining (R84). -/
structure CardSnapshot where
  state : Nat
  cardClass : Option CardClass
  source : Option CardSource
  masked : Option (List Byte)
  lifetime : Option Nat
  last : Option OutcomeRecord
deriving DecidableEq, Repr

/-- TICKET_STATE (R115). -/
structure TicketSnapshot where
  state : TicketState
  number : Nat
  lines : Nat
  weighed : Nat
  total : Int
  due : Int
  tenders : Nat
  loyalty : Option (List Byte)
  checkMatched : Bool
  receiptMet : Bool
  jobsMet : Bool
  drawerMet : Bool
deriving DecidableEq, Repr

/-- OPERATOR_STATE but for the time remaining (R95). -/
structure OperatorSnapshot where
  operator : Option Operator
  grant : Option Grant
deriving DecidableEq, Repr

/-- An entry of JOB_STATE (R178). -/
structure JobReport where
  number : Nat
  ticket : Nat
  stream : Bool
  submitted : Bool
  state : JobState
  stall : Option Stall
deriving DecidableEq, Repr

/-- The position field of JOB_STATE (R178). -/
structure PositionReport where
  job : Nat
  own : Nat
  depth : Nat
  fragment : Option (Nat × Nat)
deriving DecidableEq, Repr

/-- JOB_STATE (R178). -/
structure JobSnapshot where
  freeBlocks : Nat
  jobs : List JobReport
  position : Option PositionReport
deriving DecidableEq, Repr

/-- PRINTER_STATE (R191). -/
structure PrinterSnapshot where
  mode : PortMode
  presence : Presence
  capable : Bool
  status : PrinterStatus
  stall : Option Stall
  fifoError : Bool
deriving DecidableEq, Repr

/-- DRAWER_STATE (R156). -/
structure DrawerSnapshot where
  state : DrawerState
  forced : Bool
  auth : Option Authorization
  attempts : Nat
  alarm : Bool
  reasons : List CallReason
  lampA : LampReport
  lampB : LampReport
deriving DecidableEq, Repr

/-- LINK_STATUS (R17). -/
structure LinkSnapshot where
  degraded : Bool
  overruns : List Bool
deriving DecidableEq, Repr

/-- STARTUP (R201). -/
structure StartupSnapshot where
  lastReset : ResetKind
  metroValid : Bool
  settingsValid : Bool
  counter : Nat
  lane : Nat
deriving DecidableEq, Repr

/-- The snapshot of a notice kind (R14). -/
inductive Snapshot where
  | link (x : LinkSnapshot)
  | startup (x : StartupSnapshot)
  | scale (x : ScaleSnapshot)
  | card (x : CardSnapshot)
  | ticket (x : TicketSnapshot)
  | operator (x : OperatorSnapshot)
  | job (x : JobSnapshot)
  | printer (x : PrinterSnapshot)
  | drawer (x : DrawerSnapshot)
deriving DecidableEq, Repr

/-- The SCALE_STATE reason (Table 2-1, R31). -/
def scaleReason (s : State) : Reason :=
  match s.scale.state with
  | .uncalibrated => if consistent s.store.metro then .none else .metroInconsistent
  | .fault => .scaleFault
  | .noZero => if s.scale.zeroOutOfRange then .zeroOutOfRange else .none
  | _ => .none

/-- The reading SCALE_STATE reports: the held one in READY, none in other states (R41). -/
def shownReading (s : State) : Option Reading :=
  match s.scale.state with
  | .ready => s.scale.reading
  | _ => none

/-- A displayed value of SCALE_STATE: 0 outside READY and while overload or underload holds (R41). -/
def shownWeight (r : Option Reading) (value : Reading → Int) : Int :=
  match r with
  | none => 0
  | some r => if r.overload || r.underload then 0 else value r

/-- A condition of SCALE_STATE: no outside READY (R41). -/
def shownCondition (r : Option Reading) (value : Reading → Bool) : Bool :=
  match r with
  | none => false
  | some r => value r

/-- SCALE_STATE as it stands (R41). -/
def scaleSnapshot (s : State) : ScaleSnapshot where
  state := s.scale.state
  calMode := calMode s
  gross := shownWeight (shownReading s) (·.displayedGross)
  tare := s.scale.tare
  net := shownWeight (shownReading s) (·.displayedNet)
  range := match shownReading s with
    | none => 0
    | some r => r.range
  stable := shownCondition (shownReading s) fun _ => s.scale.stable
  overload := shownCondition (shownReading s) (·.overload)
  underload := shownCondition (shownReading s) (·.underload)
  centre := shownCondition (shownReading s) (·.centre)
  rearm := s.scale.rearm
  reason := scaleReason s
  filtered := if calMode s then s.scale.latest else none

/-- The card and the timer of an occupied slot. -/
def slotCard : Slot → Option (HeldCard × Nat)
  | .empty => none
  | .presented c t => some (c, t)
  | .read c t => some (c, t)

/-- Position of the slot state (R84). -/
def slotCode : Slot → Nat
  | .empty => 0
  | .presented _ _ => 1
  | .read _ _ => 2

/-- CARD_STATE as it stands (R84); `lifetime` is the length of the running timer. -/
def cardSnapshot (s : State) : CardSnapshot where
  state := slotCode s.card.slot
  cardClass := (slotCard s.card.slot).map fun x => x.1.cardClass
  source := (slotCard s.card.slot).map fun x => x.1.source
  masked := (slotCard s.card.slot).map fun x => x.1.masked
  lifetime := (slotCard s.card.slot).map (·.2)
  last := s.card.last

/-- TICKET_STATE in IDLE (R115). -/
def idleSnapshot : TicketSnapshot := ⟨.idle, 0, 0, 0, 0, 0, 0, none, false, false, false, false⟩

/-- TICKET_STATE as it stands (R115, R132). -/
def ticketSnapshot (s : State) : TicketSnapshot :=
  match s.ticket.current with
  | none => idleSnapshot
  | some t =>
    { state := ticketState s
      number := t.number
      lines := t.lines.length
      weighed := weighedCount t
      total := t.total
      due := amountDue t
      tenders := t.tenders.length
      loyalty := t.loyalty
      checkMatched := t.checkMatched
      receiptMet := t.phase == .settled && t.receiptMet
      jobsMet := t.phase == .settled && t.jobsMet
      drawerMet := t.phase == .settled && t.drawerMet }

/-- A job's entry in JOB_STATE (R178). -/
def jobReport (j : Job) : JobReport :=
  ⟨j.number, j.ticket.getD 0, j.stream, j.submitted, j.state, j.stall⟩

/-- The index in the job's own list: the position itself, or the return position at the bottom of the call stack
(notes/assumptions/17.md). -/
def ownIndex (j : Job) : Nat :=
  match j.position with
  | .own i => i
  | .fragment _ _ _ => match j.stack.getLast? with
    | some (.own i) => i
    | _ => 0

/-- The position field of JOB_STATE (R178). -/
def positionReport (j : Job) : PositionReport where
  job := j.number
  own := ownIndex j
  depth := j.stack.length
  fragment := match j.position with
    | .own _ => none
    | .fragment n i _ => some (n, i)

/-- JOB_STATE as it stands (R178). -/
def jobSnapshot (s : State) : JobSnapshot where
  freeBlocks := freeBlocks s.print
  jobs := s.print.jobs.map jobReport
  position := (printingJob s.print).map positionReport

/-- PRINTER_STATE as it stands (R191). -/
def printerSnapshot (s : State) : PrinterSnapshot :=
  ⟨s.port.mode, s.port.presence, s.port.capable, s.port.status, s.port.stall, s.port.fifoError⟩

/-- DRAWER_STATE as it stands (R156). -/
def drawerSnapshot (s : State) : DrawerSnapshot :=
  ⟨s.drawer.state, s.drawer.forced, s.drawer.auth, s.drawer.attempts, s.drawer.alarm, s.lamps.reasons,
    lampReport s .lampA, lampReport s .lampB⟩

/-- LINK_STATUS as it stands (R17). -/
def linkSnapshot (s : State) : LinkSnapshot :=
  ⟨s.link.degraded, [s.link.mgmt.overrun, s.link.scale.overrun, s.link.card.overrun, s.link.pay.overrun,
    s.link.ticket.overrun, s.link.print.overrun, s.link.drawer.overrun]⟩

/-- STARTUP as it stands (R201). -/
def startupSnapshot (s : State) : StartupSnapshot :=
  ⟨s.store.lastReset, s.store.metroValid, s.store.settingsValid, s.store.counter, s.link.lane⟩

/-- The snapshot of a kind as it stands. -/
def snapshot (s : State) : NoticeKind → Snapshot
  | .linkStatus => .link (linkSnapshot s)
  | .startup => .startup (startupSnapshot s)
  | .scaleState => .scale (scaleSnapshot s)
  | .cardState => .card (cardSnapshot s)
  | .ticketState => .ticket (ticketSnapshot s)
  | .operatorState => .operator ⟨s.staff.operator, s.staff.grant⟩
  | .jobState => .job (jobSnapshot s)
  | .printerState => .printer (printerSnapshot s)
  | .drawerState => .drawer (drawerSnapshot s)

/-! ## Encodings of snapshots (R13) -/

/-- Position of a scale state (R41). -/
def scaleStateCode : ScaleState → Nat
  | .off => 0 | .uncalibrated => 1 | .fault => 2 | .settling => 3 | .noZero => 4 | .ready => 5

/-- Position of a ticket state (R115). -/
def ticketStateCode : TicketState → Nat
  | .idle => 0 | .opened => 1 | .tendering => 2 | .settled => 3

/-- Position of a drawer state (R156). -/
def drawerStateCode : DrawerState → Nat
  | .closed => 0 | .unlatching => 1 | .confirming => 2 | .opened => 3 | .jammed => 4 | .disabled => 5

/-- Position of an authorization cause (R156). -/
def authCauseCode : AuthCause → Nat
  | .cash => 0 | .noSale => 1

/-- Position of a call reason (Table 9-1). -/
def callReasonCode : CallReason → Nat
  | .supervisorNeeded => 0 | .drawerJammed => 1 | .drawerForced => 2 | .drawerLeftOpen => 3 | .paperOut => 4
  | .scaleFault => 5

/-- Position of a lamp report (R156). -/
def lampReportCode : LampReport → Nat
  | .off => 0 | .on => 1 | .flashing => 2

/-- Position of a source of a record (R81, R84). -/
def cardSourceCode : CardSource → Nat
  | .stripe => 0 | .contactless => 1

/-- Position of a sign-on source (R95). -/
def signSourceCode : SignSource → Nat
  | .card => 0 | .link => 1

/-- The value of an outcome (Table 4-1). -/
def outcomeCode : CardOutcome → Nat
  | .presented => 0 | .attached => 1 | .signedOn => 2 | .signedOff => 3 | .granted => 4 | .cleared => 5
  | .slotExpired => 6 | .check => 7 | .format => 8 | .noRange => 9 | .length => 10 | .luhn => 11
  | .expired => 12 | .long => 13 | .timeout => 14 | .noTicket => 15 | .slotBusy => 16
  | .alreadyAttached => 17 | .ticketActive => 18 | .otherOperator => 19

/-- The kinds of outcome (Table 4-1). -/
inductive OutcomeKind where
  | accepted | refused | slot
deriving DecidableEq, Repr

/-- The kind of an outcome (Table 4-1). -/
def outcomeKind : CardOutcome → OutcomeKind
  | .presented | .attached | .signedOn | .signedOff | .granted => .accepted
  | .cleared | .slotExpired => .slot
  | .check | .format | .noRange | .length | .luhn | .expired | .long | .timeout | .noTicket | .slotBusy
  | .alreadyAttached | .ticketActive | .otherOperator => .refused

/-- The encoding of an outcome's kind (notes to Table 4-1). -/
def outcomeKindCode : OutcomeKind → Nat
  | .accepted => 0 | .refused => 1 | .slot => 2

/-- Position of a job state (R178). -/
def jobStateCode : JobState → Nat
  | .loading => 0 | .queued => 1 | .printing => 2 | .waitingData => 3 | .held => 4 | .stalled => 5

/-- Position of a stall reason (R191). -/
def stallCode : Stall → Nat
  | .paperOut => 0 | .coverOpen => 1 | .headHot => 2 | .printerFault => 3 | .notResponding => 4 | .portOff => 5
  | .printerAbsent => 6

/-- Position of a port mode (R191). -/
def portModeCode : PortMode → Nat
  | .compat => 0 | .block => 1 | .status => 2

/-- Position of a presence (R191). -/
def presenceCode : Presence → Nat
  | .unknown => 0 | .present => 1 | .absent => 2

/-- Position of a reset kind (R201). -/
def resetKindCode : ResetKind → Nat
  | .powerOn => 0 | .resetLine => 1 | .laneReset => 2 | .reload => 3

/-- A tare field (R41). -/
def writeTare (t : Tare) : List Byte :=
  u32 t.value ++ u8 (match t.kind with
    | .semi => 0
    | .preset => 1) ++ u8 t.code

/-- The fields of SCALE_STATE and of READ SCALE (R41, R42). -/
def writeScale (x : ScaleSnapshot) : List Byte :=
  u8 (scaleStateCode x.state) ++ flag x.calMode ++ i32 x.gross ++ optional writeTare x.tare ++ i32 x.net
    ++ u8 x.range ++ flag x.stable ++ flag x.overload ++ flag x.underload ++ flag x.centre ++ flag x.rearm
    ++ u8 x.reason.code ++ optional i32 x.filtered

/-- The last-outcome field of CARD_STATE (R84). -/
def writeOutcome (r : OutcomeRecord) : List Byte :=
  u8 r.number ++ u8 (outcomeKindCode (outcomeKind r.outcome)) ++ u8 (outcomeCode r.outcome)
    ++ optional (fun c => u8 (cardClassCode c)) r.cardClass ++ optional (fun c => u8 (cardSourceCode c)) r.source
    ++ optional string r.masked

/-- The fields of CARD_STATE with the lifetime remaining (R84). -/
def writeCard (remaining : Nat) (x : CardSnapshot) : List Byte :=
  u8 x.state ++ optional (fun c => u8 (cardClassCode c)) x.cardClass
    ++ optional (fun c => u8 (cardSourceCode c)) x.source ++ optional string x.masked
    ++ optional (fun _ => u16 remaining) x.lifetime ++ optional writeOutcome x.last

/-- The fields of TICKET_STATE (R115). -/
def writeTicket (x : TicketSnapshot) : List Byte :=
  u8 (ticketStateCode x.state) ++ u32 x.number ++ u8 x.lines ++ u8 x.weighed ++ i64 x.total ++ i64 x.due
    ++ u8 x.tenders ++ optional string x.loyalty ++ flag x.checkMatched ++ flag x.receiptMet ++ flag x.jobsMet
    ++ flag x.drawerMet

/-- The fields of OPERATOR_STATE with the time remaining (R95). -/
def writeOperator (remaining : Nat) (x : OperatorSnapshot) : List Byte :=
  optional (fun o => u32 o.number ++ u8 (signSourceCode o.source)) x.operator
    ++ optional (fun g => u32 g.supervisor ++ u8 remaining) x.grant

/-- A job's entry (R178). -/
def writeJob (j : JobReport) : List Byte :=
  u8 j.number ++ u32 j.ticket ++ flag j.stream ++ flag j.submitted ++ u8 (jobStateCode j.state)
    ++ optional (fun r => u8 (stallCode r)) j.stall

/-- The position field (R178). -/
def writePosition (p : PositionReport) : List Byte :=
  u8 p.job ++ u8 p.own ++ u8 p.depth ++ optional (fun x => u8 x.1 ++ u8 x.2) p.fragment

/-- The fields of JOB_STATE (R178). -/
def writeJobs (x : JobSnapshot) : List Byte :=
  u16 x.freeBlocks ++ listOf writeJob x.jobs ++ optional writePosition x.position

/-- The fields of PRINTER_STATE (R191). -/
def writePrinter (x : PrinterSnapshot) : List Byte :=
  u8 (portModeCode x.mode) ++ u8 (presenceCode x.presence) ++ flag x.capable ++ flag x.status.paperOut
    ++ flag x.status.paperLow ++ flag x.status.coverOpen ++ flag x.status.headHot ++ flag x.status.fault
    ++ flag x.status.blockCapable ++ optional (fun r => u8 (stallCode r)) x.stall ++ flag x.fifoError

/-- The fields of DRAWER_STATE and of READ DRAWER (R156). -/
def writeDrawer (x : DrawerSnapshot) : List Byte :=
  u8 (drawerStateCode x.state) ++ flag x.forced
    ++ optional (fun a => u8 (authCauseCode a.cause) ++ u32 a.number) x.auth ++ u8 x.attempts ++ flag x.alarm
    ++ listOf (fun r => u8 (callReasonCode r)) x.reasons ++ u8 (lampReportCode x.lampA)
    ++ u8 (lampReportCode x.lampB)

/-- The fields of LINK_STATUS (R17). -/
def writeLink (x : LinkSnapshot) : List Byte := flag x.degraded ++ listOf flag x.overruns

/-- The fields of STARTUP (R201). -/
def writeStartup (x : StartupSnapshot) : List Byte :=
  u8 (resetKindCode x.lastReset) ++ flag x.metroValid ++ flag x.settingsValid ++ u32 x.counter ++ u8 x.lane

/-- The payload of a notice, given the remaining time of the timer it reports, if any. -/
def writeSnapshot (remaining : Nat) : Snapshot → List Byte
  | .link x => writeLink x
  | .startup x => writeStartup x
  | .scale x => writeScale x
  | .card x => writeCard remaining x
  | .ticket x => writeTicket x
  | .operator x => writeOperator remaining x
  | .job x => writeJobs x
  | .printer x => writePrinter x
  | .drawer x => writeDrawer x

/-- The length in s of the running timer a snapshot reports, if it reports one (R84, R95). -/
def reportedTimer : Snapshot → Option Nat
  | .card x => x.lifetime
  | .operator x => x.grant.map (·.timer)
  | _ => none

/-- The whole seconds a running timer has left, rounded up, with `left` of them when they were last reported (R84, R95):
some value in 1..`left`, which elapsed time decides; a free value (notes/assumptions/2.md). -/
def remaining (left draw : Nat) : Nat := if left = 0 then 0 else 1 + Config.elapsedReading draw % left

/-- The seconds a frame reports of a countdown: all of them in the command that started the timer, later a free value no
greater than the last one reported (R84, R95). -/
def secondsLeft (before now : Countdown) (draw : Nat) : Nat :=
  if before.starts = now.starts then remaining now.left draw else now.left

/-- The timer of a countdown starts with its whole length. -/
def Countdown.begin (length : Nat) (c : Countdown) : Countdown := ⟨c.starts + 1, length⟩

end Sys2Proof.Machine
end

