-- ==== Sys2Proof/Machine/Ops.lean ====
section
/-! DEFINITION. The shared operations of the units: channels, admission, responses, the owed marks, the outbound
arbiter, the journal, the call reasons, the grant check, and the moment within which a command acts. -/

namespace Sys2Proof.Machine

/-! ## Channels and owed marks -/

/-- What the Link Interface holds for a channel. -/
def chanOf (l : Link) : Channel → ChannelState
  | .mgmt => l.mgmt
  | .scale => l.scale
  | .card => l.card
  | .pay => l.pay
  | .ticket => l.ticket
  | .print => l.print
  | .drawer => l.drawer

/-- Replaces what the Link Interface holds for a channel. -/
def setChan (l : Link) (ch : Channel) (c : ChannelState) : Link :=
  match ch with
  | .mgmt => { l with mgmt := c }
  | .scale => { l with scale := c }
  | .card => { l with card := c }
  | .pay => { l with pay := c }
  | .ticket => { l with ticket := c }
  | .print => { l with print := c }
  | .drawer => { l with drawer := c }

/-- The owed mark of a kind. -/
def owes (o : Owed) : NoticeKind → Bool
  | .linkStatus => o.linkStatus
  | .startup => o.startup
  | .scaleState => o.scaleState
  | .cardState => o.cardState
  | .ticketState => o.ticketState
  | .operatorState => o.operatorState
  | .jobState => o.jobState
  | .printerState => o.printerState
  | .drawerState => o.drawerState

/-- Sets the owed mark of a kind. -/
def setOwed (o : Owed) (k : NoticeKind) (b : Bool) : Owed :=
  match k with
  | .linkStatus => { o with linkStatus := b }
  | .startup => { o with startup := b }
  | .scaleState => { o with scaleState := b }
  | .cardState => { o with cardState := b }
  | .ticketState => { o with ticketState := b }
  | .operatorState => { o with operatorState := b }
  | .jobState => { o with jobState := b }
  | .printerState => { o with printerState := b }
  | .drawerState => { o with drawerState := b }

/-- Marks a kind owed (R14); marking it again leaves it marked. -/
def markOwed (k : NoticeKind) (s : State) : State :=
  s.setLink { s.link with owed := setOwed s.link.owed k true }

/-- A kind is owed if it was, or if a field of its snapshot has changed (R14). -/
def owedAfter (before after : State) (k : NoticeKind) : Bool :=
  owes after.link.owed k || decide (snapshot before k ≠ snapshot after k)

/-- The owed marks after a moment (R14). -/
def markChanged (before after : State) : State :=
  after.setLink { after.link with
    owed :=
      { linkStatus := owedAfter before after .linkStatus
        startup := owedAfter before after .startup
        scaleState := owedAfter before after .scaleState
        cardState := owedAfter before after .cardState
        ticketState := owedAfter before after .ticketState
        operatorState := owedAfter before after .operatorState
        jobState := owedAfter before after .jobState
        printerState := owedAfter before after .printerState
        drawerState := owedAfter before after .drawerState } }

/-- A part of a command that does its own marking: a field it changes owes its notice even if a later part of the same
command changes it back (R14). -/
def noting (act : State → State) (s : State) : State := markChanged s (act s)

/-- The notice kinds of a channel, in kind order (Table 1-2). -/
def noticeKinds : Channel → List NoticeKind
  | .mgmt => [.linkStatus, .startup]
  | .scale => [.scaleState]
  | .card => [.cardState]
  | .pay => []
  | .ticket => [.ticketState, .operatorState]
  | .print => [.jobState, .printerState]
  | .drawer => [.drawerState]

/-- The kind value of a notice (Table 1-10). -/
def noticeCode : NoticeKind → Nat
  | .linkStatus => 128
  | .startup => 129
  | .scaleState => 128
  | .cardState => 128
  | .ticketState => 128
  | .operatorState => 129
  | .jobState => 128
  | .printerState => 129
  | .drawerState => 128

/-! ## Responses and admission -/

/-- The payload of a response: result, reason, then the fields its chapter gives (R12). -/
def responsePayload (result : Result) (reason : Reason) (fields : List Byte) : List Byte :=
  u8 result.code ++ u8 reason.code ++ fields

/-- Puts a response at the tail of its channel's queue (R12), with what comes into force at its end (R1, R3). -/
def respondWith (r : Admitted) (result : Result) (reason : Reason) (fields : List Byte)
    (change : Option LinkChange) (s : State) : State :=
  let c := chanOf s.link r.channel
  let answer : Response := ⟨r.id, r.kind, r.tag, responsePayload result reason fields, change⟩
  s.setLink (setChan s.link r.channel { c with responses := c.responses ++ [answer] })

/-- Puts a response at the tail of its channel's queue (R12). -/
def respond (r : Admitted) (result : Result) (reason : Reason) (fields : List Byte) (s : State) : State :=
  respondWith r result reason fields none s

/-- The fields a response to a WEIGH echoes, whatever their values (R59). -/
def weighEcho : Request → Option WeighEcho
  | .weigh f => some ⟨f.item, f.price, priceBaseCode f.base⟩
  | _ => none

/-- The free values of the fields that cannot be read in the payload of a WEIGH (R59; notes/assumptions/54.md). -/
def unreadEcho (id : Nat) : WeighEcho :=
  let e := Config.unreadEcho id
  ⟨e.1, e.2.1, e.2.2⟩

/-- What a response that reports no record echoes of the request with this serial number, on this channel and of this kind:
of a WEIGH its three fields, read from the payload where the request does not decode, of any other request nothing (R59). -/
def requestEcho (id : Nat) (ch : Channel) (kind : Nat) (payload : List Byte) (q : Option Request) : Option WeighEcho :=
  match q with
  | some r => weighEcho r
  | none => if ch = .scale ∧ kind = 5 then some (readEcho (unreadEcho id) payload) else none

/-- Admission of a request that passed R8 (R10), then the check of its tag (R11). `body` is the taking of the
request by its unit. -/
def admitRequest (ch : Channel) (kind tag : Nat) (echo : Option WeighEcho) (body : Admitted → State → State)
    (s : State) : State :=
  let c := chanOf s.link ch
  if Config.maxUnanswered ≤ c.unanswered.length then
    s.setLink (setChan s.link ch { c with overrun := true })
  else
    let r : Admitted := ⟨s.link.nextId, ch, kind, tag, echo⟩
    let l := setChan s.link ch { c with unanswered := c.unanswered ++ [r] }
    let s1 := s.setLink { l with nextId := s.link.nextId + 1 }
    if tag = 0 then respond r .badField .none [] s1 else body r s1

/-! ## Frames sent -/

/-- The life value after `v`, from 63 to 1 (R16). -/
def nextLife (v : Nat) : Nat := if v = Config.maxLife then 1 else v + 1

/-- The header of a lane frame (Table 1-6). -/
def frameHeader (channel kind tag life length : Nat) : List Byte :=
  u8 channel ++ u8 kind ++ u8 tag ++ u8 life ++ u16 length

/-- A whole lane frame with its start byte and its check, for a lane ID (R4). -/
def laneFrameBytes (lane channel kind tag life : Nat) (payload : List Byte) : List Byte :=
  let header := frameHeader channel kind tag life payload.length
  0xA5#8 :: (header ++ payload ++ checkHighFirst (frameCheck lane header payload))

/-- The bytes of an outbound frame (R4). -/
def outFrameBytes (f : OutFrame) : List Byte :=
  laneFrameBytes f.lane (channelNumber f.channel) f.kind f.tag f.life f.payload

/-- The fixed priority order of the arbiter (R15). -/
def priority : List Channel := [.mgmt, .drawer, .ticket, .scale, .pay, .card, .print]

/-- The channel's first owed kind in its kind order (R15). -/
def firstOwed (l : Link) (ch : Channel) : Option NoticeKind := (noticeKinds ch).find? (owes l.owed)

/-- The channel has a queued response or an owed kind (R15). -/
def hasToSend (l : Link) (ch : Channel) : Bool := !(chanOf l ch).responses.isEmpty || (firstOwed l ch).isSome

/-- Starts the response at the head of the channel's queue (R15, R16). -/
def startResponse (ch : Channel) (a : Response) (rest : List Response) (s : State) : State :=
  let c := chanOf s.link ch
  let l := setChan s.link ch { c with responses := rest }
  s.setLink { l with
    sending := some ⟨ch, a.kind, a.tag, nextLife c.life, a.payload, s.link.lane, .response a.id a.change⟩ }

/-- The remaining time a notice reports, 0 for one that reports none, and the countdowns after it (R84, R95). `before` are
the countdowns at the start of the command. -/
def reportTime (before : Draws) (view : Snapshot) (d : Draws) : Nat × Draws :=
  match view, reportedTimer view with
  | .card _, some _ =>
    let n := secondsLeft before.slot d.slot d.read
    (n, ⟨d.read + 1, { d.slot with left := n }, d.grant⟩)
  | .operator _, some _ =>
    let n := secondsLeft before.grant d.grant d.read
    (n, ⟨d.read + 1, d.slot, { d.grant with left := n }⟩)
  | _, _ => (0, d)

/-- Starts a notice frame: its fields are composed from the state at this moment and its owed mark is cleared
(R14, R16). -/
def startNotice (before : Draws) (ch : Channel) (k : NoticeKind) (s : State) : State :=
  let view := snapshot s k
  let time := reportTime before view s.draws
  (s.setDraws time.2).setLink { s.link with
    owed := setOwed s.link.owed k false
    sending := some
      ⟨ch, noticeCode k, 0, nextLife (chanOf s.link ch).life, writeSnapshot time.1 view, s.link.lane, .notice k⟩ }

/-- Starts the frame the channel sends next: its oldest response, else its first owed kind (R15). -/
def startFrame (before : Draws) (ch : Channel) (s : State) : State :=
  match (chanOf s.link ch).responses with
  | a :: rest => startResponse ch a rest s
  | [] => match firstOwed s.link ch with
    | some k => startNotice before ch k s
    | none => s

/-- The outbound arbiter: with the transmitter free and CTS asserted it starts the frame of the first channel in
priority order with something to send (R2, R15). `before` are the countdowns at the start of the command. -/
def arbitrate (before : Draws) (s : State) : State :=
  if s.link.sending.isNone && s.pins.cts then
    match priority.find? (hasToSend s.link) with
    | some ch => startFrame before ch s
    | none => s
  else s

/-- What every moment ends with: changed snapshots become owed (R14) and the arbiter chooses (R15). -/
def settle (before after : State) : State := arbitrate before.draws (markChanged before after)

/-- A command acts within one moment. While the RESET line is asserted or the supply is absent no request or
event is taken (R200). -/
def moment (act : State → State) (s : State) : State :=
  if s.power = .running then settle s (act s) else s

/-! ## Lane Journal -/

/-- Writes an entry with the operator field given (R134, R139). -/
def journalAs (operator : Nat) (body : EntryBody) (s : State) : State :=
  let j := s.journal
  let ring := j.ring ++ [⟨j.next, j.clock.getD 0, operator, body⟩]
  s.setJournal { j with
    ring := ring.drop (ring.length - Config.journalEntries)
    next := if j.next = Config.max32 then 1 else j.next + 1
    wrapped := j.wrapped || j.next == Config.max32 }

/-- The operator number entries carry: the signed-on operator's, or 0 (R86, R139). -/
def operatorNumber (s : State) : Nat :=
  match s.staff.operator with
  | some o => o.number
  | none => 0

/-- Writes an entry with the operator signed on (R139). -/
def journal (body : EntryBody) (s : State) : State := journalAs (operatorNumber s) body s

/-! ## Attendant call reasons and lamp phases -/

/-- The reasons in the order of Table 9-1. -/
def callReasons : List CallReason :=
  [.supervisorNeeded, .drawerJammed, .drawerForced, .drawerLeftOpen, .paperOut, .scaleFault]

/-- Replaces the reason set; when the call becomes active the flash cycle of each lamp begins with the lamp on
(R157, R158). -/
def setReasons (reasons : List CallReason) (s : State) : State :=
  let begins := s.lamps.reasons.isEmpty && !reasons.isEmpty
  s.setLamps ⟨reasons, begins || s.lamps.phaseA, begins || s.lamps.phaseB⟩

/-- Raises a reason; raising one that is present leaves the set as it was (R157). -/
def raiseReason (r : CallReason) (s : State) : State :=
  setReasons (callReasons.filter fun x => x == r || s.lamps.reasons.contains x) s

/-- Clears a reason; clearing one that is absent leaves the set as it was (R157). -/
def clearReason (r : CallReason) (s : State) : State := setReasons (s.lamps.reasons.filter fun x => x != r) s

/-! ## Grant check -/

/-- The check of the grant, made only for a request every other check accepts (R92): an active grant is consumed with
GRANT_USED journalled first (R94); without one the request is answered NO_GRANT and SUPERVISOR_NEEDED is raised. -/
def grantCheck (action : GrantAction) (r : Admitted) (accept : Nat → State → State) (s : State) : State :=
  match s.staff.grant with
  | none => respond r .noGrant .none [] (raiseReason .supervisorNeeded s)
  | some g => accept g.supervisor (journal (.grantUsed action g.supervisor) (s.setStaff { s.staff with grant := none }))

/-! ## Card slot -/

/-- Empties the slot without an outcome; its timer stops with it (R83). -/
def emptySlot (s : State) : State := s.setCard { s.card with slot := .empty }

/-! ## Requests -/

/-- A malformed request is answered BAD_FIELD by the unit that takes it and changes no state (R11, R13). -/
def malformed (r : Admitted) (s : State) : State := respond r .badField .none [] s

end Sys2Proof.Machine
end

