-- ==== Sys2Proof/Machine/TicketOps.lean ====
section
/-! DEFINITION. Shared operations of the Ticket Unit: appending a line, evaluating the closing conditions and closing
(R103, R126 to R128), and the drawer operations that report to it (chapter 9). -/

namespace Sys2Proof.Machine

/-! ## The ticket record -/

/-- Replaces the ticket record. -/
def setCurrent (t : Ticket) (s : State) : State := s.setTicket { s.ticket with current := some t }

/-- Discards the ticket record; the ticket is IDLE (R113, R128). -/
def discardTicket (s : State) : State := s.setTicket { s.ticket with current := none }

/-- Why an append is refused (R103). -/
inductive AppendRefusal where
  | ticketState | full | limit
deriving DecidableEq, Repr

/-- A total within its limit (R101). -/
def totalInLimit (z : Int) : Bool := -Config.maxTotal ≤ z && z ≤ Config.maxTotal

/-- The limits of every append to an OPEN ticket, the line count first (R103). -/
def appendRefusal (t : Ticket) (amount : Int) : Option AppendRefusal :=
  if t.phase ≠ .opened then some .ticketState
  else if Config.maxLines ≤ t.lines.length then some .full
  else if !totalInLimit (t.total + amount) then some .limit
  else none

/-- The ticket with a line appended: the total grows by its amount and the check-matched flag is cleared (R103). -/
def appendLine (t : Ticket) (item : Nat) (amount : Int) (body : LineBody) : Ticket :=
  { t with
    lines := t.lines ++ [⟨t.lines.length + 1, item, amount, false, body⟩]
    total := t.total + amount
    checkMatched := false }

/-- The result and reason of a refused append to a TICKET or SCALE request (R58, R104). -/
def appendResult : AppendRefusal → Result × Reason
  | .ticketState => (.rejected, .ticketState)
  | .full => (.full, .none)
  | .limit => (.limit, .none)

/-! ## Closing -/

/-- The fields of TICKET_CLOSED (R128). -/
def closedEntry (t : Ticket) : ClosedEntry where
  ticket := t.number
  total := t.total
  rounding := t.rounding
  change := t.change
  tenders := t.tenders.length
  cashSum := cashSum t
  nonCashSum := nonCashSum t
  lines := t.lines.length
  weighedLines := weighedCount t
  loyalty := t.loyalty.isSome
  waived := t.receiptWaived
  forced := t.forced

/-- The moment of closing: TICKET_CLOSED, the slot emptied, the record discarded (R128). -/
def closeTicket (t : Ticket) (s : State) : State :=
  discardTicket (emptySlot (journalAs t.operator (.ticketClosed (closedEntry t)) s))

/-- The ticket with the results of an evaluation stored (R127). -/
def evaluated (s : State) (t : Ticket) : Ticket :=
  { t with
    receiptMet := receiptCondition t
    jobsMet := jobsCondition s t.number
    drawerMet := drawerCondition s t.number }

/-- All three closing conditions are met (R127). -/
def allMet (t : Ticket) : Bool := t.receiptMet && t.jobsMet && t.drawerMet

/-- An evaluation of the closing conditions of a SETTLED ticket: the results are stored, and the ticket closes if all three
are met; in any other state nothing happens (R127). -/
def evaluateClosing (s : State) : State :=
  match s.ticket.current with
  | none => s
  | some t =>
    if t.phase = .settled then
      let t1 := evaluated s t
      let s1 := setCurrent t1 s
      if allMet t1 then closeTicket t1 s1 else s1
    else s

/-! ## Drawer Unit -/

/-- Starts a pulse: SOL is asserted and the pulse timer starts (R146). -/
def startPulse (d : Drawer) (width : Nat) : Drawer := { d with state := .unlatching, pulseTimer := some width }

/-- A cut pulse and a stopped confirm window (R147, R152, R153). -/
def cutPulse (d : Drawer) : Drawer := { d with pulseTimer := none, confirmTimer := none }

/-- Enters OPEN, starting the left-open timer (R151). -/
def enterOpen (forced : Bool) (s : State) : State :=
  s.setDrawer { cutPulse s.drawer with
    state := .opened
    forced := forced
    leftOpenTimer := some s.store.settings.leftOpenLimit }

/-- Ends the authorization: at its end attempts becomes 0 (R145). -/
def endAuth (s : State) : State := s.setDrawer { s.drawer with auth := none, attempts := 0 }

/-- An authorization arrives (R145): CLOSED starts the first pulse, OPEN consumes it at once, DISABLED skips it. No
authorization arrives in the states that hold one. -/
def authorizationArrives (a : Authorization) (s : State) : State :=
  match s.drawer.state with
  | .closed =>
    s.setDrawer (startPulse { s.drawer with auth := some a, attempts := 1 } s.store.settings.pulseWidth)
  | .opened => journal (.drawerOpened a.cause a.number false true 0) (endAuth s)
  | .disabled => journal (.drawerSkipped a.cause a.number) (endAuth s)
  | .unlatching => s
  | .confirming => s
  | .jammed => s

/-- The opening of a held authorization: it is consumed with DRAWER_OPENED, and the drawer is OPEN (R147, R149). -/
def openAuthorized (manual : Bool) (s : State) : State :=
  let s1 := match s.drawer.auth with
    | some a => journal (.drawerOpened a.cause a.number manual false s.drawer.attempts) s
    | none => s
  enterOpen false (endAuth s1)

/-- A debounced open, by drawer state (R147, R149, R150). -/
def debouncedOpen (s : State) : State :=
  match s.drawer.state with
  | .unlatching => evaluateClosing (openAuthorized false s)
  | .confirming => evaluateClosing (openAuthorized false s)
  | .jammed => evaluateClosing (clearReason .drawerJammed (openAuthorized true s))
  | .closed =>
    evaluateClosing (raiseReason .drawerForced (journal .drawerForced (enterOpen true s)))
  | .opened => s
  | .disabled => s

/-- A debounced close in OPEN (R151). -/
def debouncedClose (s : State) : State :=
  match s.drawer.state with
  | .opened =>
    let d := { s.drawer with state := .closed, leftOpenTimer := none, alarm := false, forced := false }
    evaluateClosing (clearReason .drawerLeftOpen (s.setDrawer d))
  | _ => s

/-- Drops a held authorization: DRAWER_AUTH_DROPPED, the pulse cut, the state CLOSED and DRAWER_JAMMED cleared; a drop
that finds none does nothing (R152). The report to the Ticket Unit is made by the caller. -/
def dropAuthorization (cause : DropCause) (s : State) : State :=
  match s.drawer.auth with
  | none => s
  | some a =>
    let s1 := journal (.drawerAuthDropped cause a.cause a.number) s
    let d := { cutPulse s1.drawer with
      auth := none
      attempts := 0
      state := if s1.drawer.levelClosed then .closed else .opened }
    clearReason .drawerJammed (s1.setDrawer d)

/-- The port is disabled: DISABLED from whatever state, a held authorization skipped (R153). -/
def disableDrawer (s : State) : State :=
  let s1 := match s.drawer.auth with
    | some a => journal (.drawerSkipped a.cause a.number) s
    | none => s
  let d := { cutPulse s1.drawer with
    state := .disabled
    auth := none
    attempts := 0
    forced := false
    alarm := false
    leftOpenTimer := none }
  evaluateClosing (clearReason .drawerLeftOpen (clearReason .drawerJammed (s1.setDrawer d)))

/-- The port is enabled: the state is taken from the debounced level (R153). -/
def enableDrawer (s : State) : State :=
  if s.drawer.levelClosed then evaluateClosing (s.setDrawer { s.drawer with state := .closed })
  else evaluateClosing (enterOpen false s)

end Sys2Proof.Machine
end

