-- ==== Sys2Proof/Machine/DrawerOps.lean ====
section
/-! DEFINITION. The requests and timers of the Drawer Unit and the flash of the lamps (chapter 9). -/

namespace Sys2Proof.Machine

/-! ## Requests (R154) -/

/-- NO_SALE is taken (R154). -/
def takeNoSale (who : Admitted) (s : State) : State :=
  if !idle s then respond who .rejected .ticketState [] s
  else if s.drawer.auth.isSome then respond who .rejected .drawerBusy [] s
  else grantCheck .noSale who
    (fun supervisor s =>
      let s1 := authorizationArrives ⟨.noSale, supervisor⟩ s
      respond who .ok .none (u8 (drawerStateCode s1.drawer.state)) s1) s

/-- RETRY is taken (R149, R154). -/
def takeRetry (who : Admitted) (s : State) : State :=
  if s.drawer.state ≠ .jammed then respond who .rejected .drawerState [] s
  else
    let d := startPulse { s.drawer with attempts := 1 } s.store.settings.pulseWidth
    respond who .ok .none (u8 1) (evaluateClosing (clearReason .drawerJammed (s.setDrawer d)))

/-- READ DRAWER is taken (R154, R156). -/
def takeReadDrawer (who : Admitted) (s : State) : State := respond who .ok .none (writeDrawer (drawerSnapshot s)) s

/-! ## Timers (R144, R146, R148, R151) -/

/-- The raw SENSE line has changed: the debounce timer starts again (R144). -/
def senseChanged (s : State) : State :=
  s.setDrawer { s.drawer with debounceTimer := some s.store.settings.debounce }

/-- The debounce timer expires: the level takes the raw level, and a change is a debounced open or close (R144). -/
def debounceTimeout (s : State) : State :=
  match s.drawer.debounceTimer with
  | none => s
  | some _ =>
    let raw := s.pins.senseClosed
    let s1 := s.setDrawer { s.drawer with debounceTimer := none, levelClosed := raw }
    if raw = s.drawer.levelClosed then s1
    else if raw then debouncedClose s1
    else debouncedOpen s1

/-- The pulse timer expires (R146). -/
def pulseTimeout (s : State) : State :=
  match s.drawer.state, s.drawer.pulseTimer with
  | .unlatching, some _ =>
    evaluateClosing (s.setDrawer { s.drawer with
      state := .confirming
      pulseTimer := none
      confirmTimer := some s.store.settings.confirmWindow })
  | _, _ => s

/-- The confirm timer expires (R148). -/
def confirmTimeout (s : State) : State :=
  match s.drawer.state, s.drawer.confirmTimer with
  | .confirming, some _ =>
    let d := { s.drawer with confirmTimer := none }
    if d.attempts ≤ s.store.settings.retries then
      evaluateClosing
        (s.setDrawer (startPulse { d with attempts := d.attempts + 1 } s.store.settings.pulseWidth))
    else evaluateClosing (raiseReason .drawerJammed (s.setDrawer { d with state := .jammed }))
  | _, _ => s

/-- The left-open timer expires (R151). -/
def leftOpenTimeout (s : State) : State :=
  match s.drawer.state, s.drawer.leftOpenTimer with
  | .opened, some _ =>
    raiseReason .drawerLeftOpen
      (journal .drawerLeftOpen (s.setDrawer { s.drawer with leftOpenTimer := none, alarm := true }))
  | _, _ => s

/-! ## Lamps (R158) -/

/-- A lamp flashes: its source is CALL_FLASH and the call is active (R158). -/
def flashes (s : State) (lamp : Lamp) : Bool := lampSource s lamp == .callFlash && callActive s

/-- A flashing lamp changes (R158). -/
def flashToggle (lamp : Lamp) (s : State) : State :=
  if flashes s lamp then
    match lamp with
    | .lampA => s.setLamps { s.lamps with phaseA := !s.lamps.phaseA }
    | .lampB => s.setLamps { s.lamps with phaseB := !s.lamps.phaseB }
  else s

end Sys2Proof.Machine
end

