-- ==== Sys2Proof/Machine/JournalOps.lean ====
section
/-! DEFINITION. The Lane Journal (chapter 8): the encoding of entries, READ JOURNAL, SET CLOCK and the second of the lane
clock. -/

namespace Sys2Proof.Machine

/-! ## Entries (R139, R140) -/

/-- The kind of an entry (Table 8-1). -/
def entryKind : EntryBody → Nat
  | .ticketClosed _ => 0
  | .ticketAbandoned _ _ _ _ _ => 1
  | .drawerOpened _ _ _ _ _ => 2
  | .drawerSkipped _ _ => 3
  | .drawerForced => 4
  | .drawerLeftOpen => 5
  | .drawerAuthDropped _ _ _ => 6
  | .grantUsed _ _ => 7
  | .signOn _ => 8
  | .signOff _ => 9
  | .metroSaved _ _ => 10
  | .settingsSaved _ => 11
  | .start _ _ _ _ => 12

/-- Position of an action (Table 5-1). -/
def grantActionCode : GrantAction → Nat
  | .voidLine => 0 | .abandon => 1 | .waiveReceipt => 2 | .forceClose => 3 | .noSale => 4

/-- Position of an abandonment's cause (Table 8-2). -/
def abandonCauseCode : AbandonCause → Nat
  | .request => 0 | .laneReset => 1

/-- Position of a drop cause (Table 8-2). -/
def dropCauseCode : DropCause → Nat
  | .laneReset => 0 | .forceClose => 1

/-- The result of a save: OK or FAULT (Table 8-2). -/
def saveResult (ok : Bool) : List Byte := u8 (if ok then 0 else 1)

/-- The fields of TICKET_CLOSED (Table 8-2). -/
def writeClosed (e : ClosedEntry) : List Byte :=
  u32 e.ticket ++ i64 e.total ++ i64 e.rounding ++ u64 e.change.toNat ++ u8 e.tenders ++ u64 e.cashSum
    ++ u64 e.nonCashSum ++ u8 e.lines ++ u8 e.weighedLines ++ flag e.loyalty ++ flag e.waived ++ flag e.forced

/-- The fields of an entry's kind (Table 8-2). -/
def writeBody : EntryBody → List Byte
  | .ticketClosed e => writeClosed e
  | .ticketAbandoned ticket total lines cause supervisor =>
    u32 ticket ++ i64 total ++ u8 lines ++ u8 (abandonCauseCode cause) ++ optional u32 supervisor
  | .drawerOpened cause number manual already attempts =>
    u8 (authCauseCode cause) ++ u32 number ++ flag manual ++ flag already ++ u8 attempts
  | .drawerSkipped cause number => u8 (authCauseCode cause) ++ u32 number
  | .drawerForced => []
  | .drawerLeftOpen => []
  | .drawerAuthDropped drop cause number => u8 (dropCauseCode drop) ++ u8 (authCauseCode cause) ++ u32 number
  | .grantUsed action supervisor => u8 (grantActionCode action) ++ u32 supervisor
  | .signOn source => u8 (signSourceCode source)
  | .signOff source => u8 (signSourceCode source)
  | .metroSaved count ok => u32 count ++ saveResult ok
  | .settingsSaved ok => saveResult ok
  | .start kind metro settings reloaded =>
    u8 (resetKindCode kind) ++ flag metro ++ flag settings ++ optional (fun a => u8 (areaCode a)) reloaded

/-- An entry: its common fields, then those of its kind (R139, R140). -/
def writeEntry (e : Entry) : List Byte :=
  u32 e.sequence ++ u32 e.time ++ u8 (entryKind e.body) ++ u32 e.operator ++ writeBody e.body

/-! ## READ JOURNAL (R141, R142) -/

/-- The count in force: 0 is taken as 1, above 16 as 16 (R141). -/
def readCount (n : Nat) : Nat := if n = 0 then 1 else min n 16

/-- The sequence number after `n` (R134). -/
def nextSequence (n : Nat) : Nat := if n = Config.max32 then 1 else n + 1

/-- A sequence number has been issued (R141). -/
def issued (j : Journal) (n : Nat) : Bool := if j.wrapped then n != j.next else n < j.next

/-- An entry with a sequence number is held (R141). -/
def heldSequence (j : Journal) (n : Nat) : Bool := j.ring.any fun e => e.sequence == n

/-- The held entries from a sequence number onward (R141). -/
def entriesFrom (j : Journal) (n : Nat) : List Entry := j.ring.dropWhile fun e => e.sequence != n

/-- GAP and the entries a READ JOURNAL returns, or `none` where it is answered BAD_FIELD (R141). -/
def journalView (j : Journal) (first count : Nat) : Option (Bool × List Entry) :=
  if first = j.next then some (false, [])
  else if heldSequence j first then some (false, (entriesFrom j first).take (readCount count))
  else if issued j first then some (true, j.ring.take (readCount count))
  else none

/-- The next sequence number to read (R141). -/
def nextToRead (j : Journal) (es : List Entry) : Nat :=
  match es.getLast? with
  | some e => nextSequence e.sequence
  | none => j.next

/-- READ JOURNAL is taken (R141, R142). -/
def takeReadJournal (f : JournalFields) (who : Admitted) (s : State) : State :=
  match journalView s.journal f.first f.count with
  | none => respond who .badField .none [] s
  | some (gap, es) =>
    respond who .ok .none
      (flag gap ++ u32 (nextToRead s.journal es) ++ optional u32 s.journal.clock ++ listOf writeEntry es) s

/-! ## The lane clock (R136, R137) -/

/-- SET CLOCK is taken (R137). -/
def takeSetClock (time : Nat) (who : Admitted) (s : State) : State :=
  respond who .ok .none (optional u32 s.journal.clock) (s.setJournal { s.journal with clock := some time })

/-- A full second of the lane clock (R136). -/
def clockSecond (s : State) : State :=
  match s.journal.clock with
  | none => s
  | some t => if t < Config.max32 then s.setJournal { s.journal with clock := some (t + 1) } else s

end Sys2Proof.Machine
end

