-- ==== Sys2Proof/Machine/PrintOps.lean ====
section
/-! DEFINITION. The Print Unit and the Printer Port (chapters 10 and 11): the text of inserts, the end of a job, the byte
stream, status reads and stalls, and the progress both make at once when a condition comes to hold. -/

namespace Sys2Proof.Machine

/-! ## Text of inserts (R171, R172, R173) -/

/-- An amount with `d` currency decimals (R172). -/
def amountText (d : Nat) (z : Int) : List Byte :=
  let n := z.natAbs
  let sign : List Byte := if z < 0 then ascii ['-'] else []
  let fraction : List Byte := if d = 0 then [] else ascii ['.'] ++ decimalPadded d (n % 10 ^ d)
  sign ++ decimal (n / 10 ^ d) ++ fraction

/-- A line of width `w` with one part at column 1 and the other ending at column `w` (R172). -/
def spread (w : Nat) (left right : List Byte) : List Byte :=
  left ++ List.replicate (w - left.length - right.length) 0x20#8 ++ right

/-- The certified text of a WEIGHED line: two lines of the print width (R172). -/
def certifiedText (w d : Nat) (l : Line) (p : WeightPart) : List (List Byte) :=
  let per := match p.base with
    | .perKg => ascii ['/', 'k', 'g']
    | .per100g => ascii ['/', '1', '0', '0', 'g']
  [ spread w (decimal l.item ++ ascii [' '] ++ amountText 3 p.net ++ ascii [' ', 'k', 'g'])
      (ascii ['#'] ++ decimal p.record)
  , spread w (ascii ['@', ' '] ++ amountText d p.price ++ per) (amountText d l.amount) ]

/-- The certified text of a line, when it is WEIGHED. -/
def lineText (w d : Nat) (l : Line) : Option (List (List Byte)) :=
  match l.body with
  | .weighed p => some (certifiedText w d l p)
  | _ => none

/-- The name a tender prints (R173). -/
def tenderName : TenderKind → List Byte
  | .cash => ascii ['C', 'A', 'S', 'H']
  | .card => ascii ['C', 'A', 'R', 'D']
  | .gift => ascii ['G', 'I', 'F', 'T']
  | .other => ascii ['O', 'T', 'H', 'E', 'R']

/-- The lines a tender prints (R173). -/
def tenderText (w d : Nat) (t : Tender) : List (List Byte) :=
  let label := tenderName t.kind ++ (match t.reference with
    | some r => ascii [' '] ++ r
    | none => [])
  spread w label (amountText d t.amount) :: (match t.masked with
    | some m => [m]
    | none => [])

/-- What an insert comes to: lines to print, a wait for settlement, or a missing line. -/
inductive Rendering where
  | lines (ls : List (List Byte))
  | hold
  | missing
deriving DecidableEq, Repr

/-- A field that exists only once the ticket has settled (R173). -/
def finalField (t : Ticket) (ls : List (List Byte)) : Rendering :=
  match t.phase with
  | .settled => .lines ls
  | _ => .hold

/-- An insert of a bound job rendered from the ticket record as it stands (R171, R173). -/
def renderInsert (s : State) (t : Ticket) (field : InsertField) (n : Nat) : Rendering :=
  let w := s.store.settings.printWidth
  let d := s.store.settings.currencyDecimals
  match field with
  | .ticketNumber =>
    .lines [ascii ['T', 'I', 'C', 'K', 'E', 'T', ' '] ++ decimal s.link.lane ++ ascii ['-'] ++ decimal t.number]
  | .operator => .lines [ascii ['O', 'P', 'E', 'R', 'A', 'T', 'O', 'R', ' '] ++ decimal t.operator]
  | .loyalty => .lines (match t.loyalty with
    | some m => [ascii ['L', 'O', 'Y', 'A', 'L', 'T', 'Y', ' '] ++ m]
    | none => [])
  | .calCount => .lines [ascii ['C', 'A', 'L', ' '] ++ decimal s.store.counter]
  | .line =>
    match (t.lines.find? fun l => l.number == n).bind (lineText w d) with
    | some ls => .lines ls
    | none => .missing
  | .allWeighed =>
    .lines ((t.lines.filter fun l => isWeighed l && !l.voided).map fun l => (lineText w d l).getD []).flatten
  | .total => finalField t [spread w (ascii ['T', 'O', 'T', 'A', 'L']) (amountText d t.total)]
  | .tenders => finalField t (t.tenders.map (tenderText w d)).flatten
  | .change =>
    finalField t
      (spread w (ascii ['C', 'H', 'A', 'N', 'G', 'E']) (amountText d t.change)
        :: (if t.rounding = 0 then []
            else [spread w (ascii ['R', 'O', 'U', 'N', 'D', 'I', 'N', 'G']) (amountText d t.rounding)]))

/-! ## Printer bytes (R182, Table 1-11) -/

/-- The characters that fit the print width in a style (R167). -/
def fitWidth (w : Nat) (style : TextStyle) (chars : List Byte) : List Byte :=
  match style with
  | .double => chars.take (w / 2)
  | _ => chars.take w

/-- One printed line: style command, characters, line end. -/
def lineBytes (w : Nat) (style : TextStyle) (chars : List Byte) : List Byte :=
  [0x1C#8, 0x53#8] ++ u8 (textStyleCode style) ++ fitWidth w style chars ++ [0x0A#8]

/-- The feed command. -/
def feedBytes (n : Nat) : List Byte := [0x1C#8, 0x46#8] ++ u8 n

/-- The cut commands. -/
def cutBytes (k : CutKind) : List Byte := [0x1C#8, 0x43#8] ++ u8 (cutKindCode k)

/-- The raster-start command (block capability yes). -/
def rasterStartBytes (width rows : Nat) : List Byte := [0x1C#8, 0x42#8] ++ u8 width ++ u8 rows

/-- The raster-row command with the row's expanded bytes (block capability no). -/
def rasterRowBytes (width : Nat) (row : List Byte) : List Byte :=
  [0x1C#8, 0x52#8] ++ u8 width ++ (expandRow row).getD []

/-- The line-discard command. -/
def discardByte : PortByte := ⟨0x18#8, false⟩

/-! ## Jobs -/

/-- Replaces the job with `j`'s number by `j`. -/
def putJob (j : Job) (s : State) : State :=
  s.setPrint { s.print with jobs := s.print.jobs.map fun x => if x.number = j.number then j else x }

/-- A job's position moves: JOB_STATE becomes owed at every move, also where a later move of the same command leads back to
the place the position had before it (R167, R178). A restart ends with the move, since it is that of the segment the position
has left, also where that segment, rendered again, hands nothing (R171, R174). -/
def movePosition (j : Job) (s : State) : State := markOwed .jobState (putJob { j with restart := false } s)

/-- A job leaves WAITING_DATA or HELD, in which no byte of it is in the printer (R168) and so no restart waits: it moves to
PRINTING, or to STALLED while it holds a stall reason (R174, notes to Table 10-1). -/
def toPrinting (j : Job) : Job := { j with state := if j.stall.isSome then .stalled else .printing, restart := false }

/-- Position of an end state in the SUBMIT response (R175). -/
def jobEndCode : JobEnd → Nat
  | .done => 0 | .failed => 1 | .cancelled => 2

/-- The fields of the SUBMIT response (R175). -/
def submitFields (j : Job) (ending : JobEnd) : List Byte :=
  u8 (jobEndCode ending) ++ flag j.missingFragment ++ flag j.missingLine ++ flag j.printedTotal

/-- The result of the SUBMIT response (R175). -/
def endResult : JobEnd → Result
  | .failed => .fault
  | _ => .ok

/-- Ends a job but for the report to the Ticket Unit (R175 steps 1, 2 and 4): it leaves the queue and the order list, its
blocks return to the pool, an unanswered SUBMIT is answered, and JOB_STATE becomes owed. -/
def endJobQuietly (j : Job) (ending : JobEnd) (reason : Reason) (s : State) : State :=
  let s1 := (markOwed .jobState s).setPrint { s.print with
    jobs := s.print.jobs.filter fun x => x.number != j.number
    order := s.print.order.filter fun n => n != j.number }
  match j.reply with
  | some r => respond r (endResult ending) reason (submitFields j ending) s1
  | none => s1

/-- The report of a bound job's end (R175 step 3, R126, R127): a DONE job that printed the total sets the receipt
latch, and the conditions are evaluated; a report that names another ticket or finds it not SETTLED is discarded. -/
def reportJobEnd (j : Job) (ending : JobEnd) (s : State) : State :=
  match s.ticket.current with
  | none => s
  | some t =>
    if t.phase = .settled ∧ j.ticket = some t.number then
      let latch := t.receiptLatch || (ending == .done && j.printedTotal)
      evaluateClosing (setCurrent { t with receiptLatch := latch } s)
    else s

/-- Ends a job (R175). -/
def endJob (j : Job) (ending : JobEnd) (reason : Reason) (s : State) : State :=
  reportJobEnd j ending (endJobQuietly j ending reason s)

/-! ## Port modes -/

/-- A change into COMPAT empties the FIFO and sets its condition to NORMAL; a change of mode makes PRINTER_STATE owed
(R181). -/
def enterCompat (s : State) : State :=
  let s1 := if s.port.mode = .compat then s else markOwed .printerState s
  s1.setPort { s1.port with mode := .compat, fifo := [], fifoError := false }

/-- The port changes mode out of COMPAT (R181). -/
def leaveCompat (m : PortMode) (s : State) : State :=
  let s1 := markOwed .printerState s
  s1.setPort { s1.port with mode := m }

/-! ## Segments accepted -/

/-- The port reports the segment in transfer accepted; the printing job's position moves to the next segment (R167, R182). -/
def segmentAccepted (s : State) : State :=
  let s1 := s.setPort { s.port with segment := none }
  match printingJob s1.print with
  | some j => movePosition { j with position := nextPosition j.position } s1
  | none => s1

/-- The Print Unit hands the port a segment (R167, R182); it waits there until its bytes can move. -/
def hand (j : Job) (content : Handed) (s : State) : State :=
  let s1 := putJob { j with restart := false } s
  s1.setPort { s1.port with segment := some ⟨content, false, [], [], false, 0⟩ }

/-- The position moves on past a segment that hands no bytes. -/
def skip (j : Job) (s : State) : State := movePosition { j with position := nextPosition j.position } s

/-- Hands the lines of an insert as NORMAL lines; an insert that renders nothing hands no bytes and the position moves on
at once (R171). -/
def handLines (j : Job) (ls : List (List Byte)) (s : State) : State :=
  match ls with
  | [] => skip j s
  | _ => hand j (.bytes ((ls.map (lineBytes s.store.settings.printWidth .normal)).flatten)) s

/-- The printing job reaches an INSERT (R171, R173). In a FREE job it renders nothing and sets no flag. -/
def reachInsert (j : Job) (field : InsertField) (n : Nat) (s : State) : State :=
  match j.ticket, s.ticket.current with
  | none, _ => skip j s
  | some _, none => putJob { j with state := .held } s
  | some _, some t =>
    match renderInsert s t field n with
    | .hold => putJob { j with state := .held } s
    | .missing => skip { j with missingLine := true } s
    | .lines ls => handLines { j with printedTotal := j.printedTotal || field == .total } ls s

/-- The content of a fragment as it stands (R170). -/
def fragmentContent (g : Settings) (n : Nat) : List Segment := (g.fragments[n - 1]?).getD []

/-- The printing job reaches a CALL (R169): an empty fragment is skipped, the fifth nested call fails the job, otherwise the
return position is pushed and the position moves to the fragment as it stands (R170). -/
def reachCall (j : Job) (n : Nat) (s : State) : State :=
  let content := fragmentContent s.store.settings n
  if content = [] then skip { j with missingFragment := true } s
  else if Config.maxCallDepth ≤ j.stack.length then endJob j .failed .nestLimit s
  else movePosition { j with position := .fragment n 0 content, stack := nextPosition j.position :: j.stack } s

/-- The printing job reaches a segment (R167). -/
def reachSegment (j : Job) (g : Segment) (s : State) : State :=
  match g with
  | .text style chars => hand j (.bytes (lineBytes s.store.settings.printWidth style chars)) s
  | .raster width rows => hand j (.raster width rows) s
  | .feed n => hand j (.bytes (feedBytes n)) s
  | .cut kind => hand j (.bytes (cutBytes kind)) s
  | .insert field n => reachInsert j field n s
  | .call n => reachCall j n s

/-- The printing job's position passes the last segment of its list: a fragment returns (R169), a submitted job is DONE, a
stream job waits for data (R167). -/
def passEnd (j : Job) (s : State) : State :=
  match j.position, j.stack with
  | .fragment _ _ _, back :: rest => movePosition { j with position := back, stack := rest } s
  | _, _ => if j.submitted then endJob j .done .none s else putJob { j with state := .waitingData } s

/-- The printing job in PRINTING takes its next step (R167). -/
def advanceJob (j : Job) (s : State) : State :=
  match segmentAt j with
  | some g => reachSegment j g s
  | none => passEnd j s

/-- The first job of the list starts (R162): it takes the port's stall reason and enters STALLED, PRINTING, WAITING_DATA, or
ends DONE. -/
def startJob (j : Job) (s : State) : State :=
  let j1 := { j with stall := s.port.stall }
  if s.port.stall.isSome then putJob { j1 with state := .stalled } s
  else if (segmentAt j1).isSome then putJob { j1 with state := .printing } s
  else if j1.submitted then endJob j1 .done .none s
  else putJob { j1 with state := .waitingData } s

/-! ## Bytes -/

/-- The port begins the segment in transfer with its capability as it stands (R182). -/
def beginTransfer (capable : Bool) (t : Transfer) : Transfer :=
  match t.content with
  | .bytes bs => { t with begun := true, ahead := bs, coded := [] }
  | .raster width rows =>
    if capable then
      { t with begun := true, ahead := rasterStartBytes width rows.length, coded := (rows.map codedRow).flatten }
    else { t with begun := true, ahead := (rows.map (rasterRowBytes width)).flatten, coded := [] }

/-- In BLOCK the port loads the bytes of the segment while the FIFO holds fewer than 64 (R181). -/
def loadFifo (p : Port) : Port :=
  match p.segment with
  | none => p
  | some t =>
    let room := Config.fifoSize - p.fifo.length
    { p with fifo := p.fifo ++ t.coded.take room, segment := some { t with coded := t.coded.drop room } }

/-- The port has a byte ready: the busy timer starts (R180). -/
def readyByte (b : PortByte) (source : ByteSource) (s : State) : State :=
  s.setPort { s.port with current := some ⟨b, source, false⟩, busyTimer := some s.store.settings.busyLimit }

/-- The port places the byte on D7..D0 and asserts STROBE; the printer asserts BUSY (R180). -/
def offerByte (c : CurrentByte) (s : State) : State :=
  let mark := fun (t : Transfer) => { t with offered := true }
  let s1 := s.setPins { s.pins with printerBusy := true }
  s1.setPort { s1.port with
    current := some { c with offered := true }
    segment := match c.source with
      | .segment | .fifo => s.port.segment.map mark
      | .discard | .stop => s.port.segment }

/-- What the port does next with the bytes it holds, or `none` while it waits (R180, R181, R182, R190). A stop whose status
read is answered with a stall reason holds its discard until the stall ends (notes/assumptions/25.md). -/
def nextByte (s : State) : Option State :=
  match s.port.current with
  | some c => if c.offered || s.pins.printerBusy then none else some (offerByte c s)
  | none =>
    if !s.store.settings.printerEnable || s.port.reading.isSome || s.port.stall.isSome then none
    else match s.port.mode with
      | .status => none
      | .compat =>
        if s.port.stopping then some (readyByte discardByte .stop s)
        else match s.port.segment with
          | none => none
          | some t =>
            if s.port.discardPending then some (readyByte discardByte .discard s)
            else if !t.begun then
              some (s.setPort { s.port with segment := some (beginTransfer s.port.capable t) })
            else match t.ahead with
              | b :: rest =>
                some (readyByte ⟨b, false⟩ .segment
                  (s.setPort { s.port with segment := some { t with ahead := rest } }))
              | [] =>
                if t.coded = [] then some (segmentAccepted s)
                else
                  let s1 := leaveCompat .block s
                  some (s1.setPort (loadFifo s1.port))
      | .block =>
        match s.port.fifo with
        | b :: _ => some (readyByte b .fifo s)
        | [] => if (loadFifo s.port).fifo = [] then none else some (s.setPort (loadFifo s.port))

/-- One more accepted byte of a segment. -/
def countAccepted (t : Transfer) : Transfer := { t with accepted := t.accepted + 1 }

/-- The byte awaiting acceptance is accepted (R180): a discard ends the pending discard, the discard of a stop ends the stop
too (R190), a FIFO byte leaves the FIFO, and the last byte of a segment makes it accepted (R182). R190 keeps a discard left
pending by an earlier interruption for the next job and does not say whether the discard a stop sends is that one too: the
model takes it so, and sends no second one (DEDUCED, notes/assumptions/25.md). -/
def acceptByte (c : CurrentByte) (s : State) : State :=
  let s1 := s.setPort { s.port with current := none, busyTimer := none }
  match c.source with
  | .discard => s1.setPort { s1.port with discardPending := false }
  | .stop => s1.setPort { s1.port with discardPending := false, stopping := false }
  | .fifo =>
    s1.setPort (loadFifo { s1.port with fifo := s1.port.fifo.tail, segment := s1.port.segment.map countAccepted })
  | .segment =>
    match s1.port.segment with
    | none => s1
    | some t =>
      let s2 := s1.setPort { s1.port with segment := some (countAccepted t) }
      if t.ahead = [] ∧ t.coded = [] then segmentAccepted s2 else s2

/-! ## Progress made at once -/

/-- A due status read can begin: COMPAT with no byte awaiting acceptance (R184). -/
def readCanStart (s : State) : Bool :=
  s.store.settings.printerEnable && s.port.due.isSome && s.port.reading.isNone && s.port.mode == .compat
    && s.port.current.isNone

/-- A due status read begins: STATUS, and the busy timer starts (R187). -/
def startRead (s : State) : State :=
  let s1 := leaveCompat .status s
  s1.setPort { s1.port with
    reading := s.port.due
    due := none
    busyTimer := some s.store.settings.busyLimit }

/-- In BLOCK every byte of the segment has been loaded and accepted (R181, R182). -/
def blockDrained (p : Port) : Bool :=
  p.mode == .block && p.fifo.isEmpty && p.current.isNone && (match p.segment with
    | some t => t.coded.isEmpty
    | none => true)

/-- The port leaves BLOCK for COMPAT and reports the segment accepted, unless a stop dropped it (R181, R182, R190). -/
def exitBlock (s : State) : State :=
  let s1 := enterCompat s
  if s1.port.stopping then s1.setPort { s1.port with segment := none } else segmentAccepted s1

/-- The first job of the list has not started and the port is free (R162, R183). -/
def jobToStart (s : State) : Option Job :=
  match firstJob s.print with
  | some j => if j.state = .queued ∧ portFree s.port then some j else none
  | none => none

/-- An interrupted segment waits to be handed again until the job next prints: until no read is made or due and no stall
is held (R174, R185). -/
def restartWaits (s : State) (j : Job) : Bool :=
  j.restart && (s.port.reading.isSome || s.port.due.isSome || s.port.stall.isSome)

/-- The printing job whose position can move: in PRINTING with no segment at the port (R167). -/
def jobToAdvance (s : State) : Option Job :=
  match printingJob s.print with
  | some j =>
    if j.state = .printing ∧ s.port.segment.isNone ∧ !s.port.stopping ∧ !restartWaits s j then some j else none
  | none => none

/-- One step of the progress that comes about at once, or `none` when nothing is due. -/
def progress (s : State) : Option State :=
  if readCanStart s then some (startRead s)
  else if blockDrained s.port then some (exitBlock s)
  else match jobToAdvance s with
    | some j => some (advanceJob j s)
    | none => match jobToStart s with
      | some j => some (startJob j s)
      | none => nextByte s

/-- Progress until nothing is due, within a bound on the steps. -/
def progressWithin : Nat → State → State
  | 0, s => s
  | n + 1, s => match progress s with
    | none => s
    | some s1 => progressWithin n s1

/-- More steps than any job can take within one moment: 255 segments of its own, 32 blocks in a fragment, four nested calls
(notes/assumptions/15.md). -/
def progressBound : Nat := 1000000000

/-- Everything the printing side does at once at this moment (R162, R167, R181, R184). -/
def run (s : State) : State := progressWithin progressBound s

/-! ## Stalls (R174, R188) -/

/-- A stall start reaches the Print Unit (R174). A CUT the port still holds when PRINTER_FAULT ends its job stays there with
the bytes it has left (notes/assumptions/24.md). -/
def stallStart (r : Stall) (s : State) : State :=
  match printingJob s.print with
  | none => s
  | some j =>
    let j1 := { j with stall := some r }
    match j.state, segmentAt j, r with
    | .printing, some (.cut _), .printerFault => endJob j1 .failed .none s
    | .printing, _, _ => putJob { j1 with state := .stalled } s
    | _, _, _ => putJob j1 s

/-- A stall end reaches the Print Unit (R174). -/
def stallEnd (s : State) : State :=
  match printingJob s.print with
  | none => s
  | some j =>
    let j1 := { j with stall := none }
    putJob (if j.state = .stalled then { j1 with state := .printing } else j1) s

/-- The port's stall reason becomes `new`; a change is reported to the Print Unit (R188). -/
def setStall (new : Option Stall) (s : State) : State :=
  if s.port.stall = new then s
  else
    let s1 := s.setPort { s.port with stall := new }
    match new with
    | some r => stallStart r s1
    | none => stallEnd s1

/-- The poll timer's condition: ABSENT, or a stall reason other than PORT_OFF (R184). -/
def pollCondition (p : Port) : Bool :=
  p.presence == .absent || (p.stall.isSome && p.stall != some .portOff)

/-- The poll timer after a read has ended (R184). -/
def rearmPoll (s : State) : State :=
  s.setPort { s.port with pollTimer := if pollCondition s.port then some Config.pollInterval else none }

/-! ## Reads due and interruptions (R184, R185, R186) -/

/-- A status read becomes due; one is held while another is in progress, and a third cause in that time adds nothing. None
becomes due at a disabled port (R184). An expiry of the busy timer joins a read that waits to begin, and that read
then counts as made due by the expiry (R187; DEDUCED, notes/assumptions/23.md). -/
def makeDue (cause : ReadCause) (s : State) : State :=
  let joins := s.port.due.isNone || (s.port.reading.isNone && cause == .busyTimer)
  if s.store.settings.printerEnable && joins then s.setPort { s.port with due := some cause } else s

/-- The restart of the segment is reported to the Print Unit (R174). -/
def reportRestart (s : State) : State :=
  match printingJob s.print with
  | some j => putJob { j with restart := true } s
  | none => s

/-- The segment in transfer at an interruption (R185): with a byte offered it is dropped, line discard is pending and its
restart is reported; with none offered it stays waiting. A raster segment with none offered is begun anew, with the
capability read again (notes/assumptions/51.md). -/
def interruptSegment (s : State) : State :=
  match s.port.segment with
  | none => s
  | some t =>
    if t.offered then reportRestart (s.setPort { s.port with segment := none, discardPending := true })
    else
      s.setPort { s.port with segment := some { t with begun := false, ahead := [], coded := [], accepted := 0 } }

/-- The FIFO enters ERROR: its contents are lost (R186). -/
def fifoError (s : State) : State := s.setPort { s.port with fifo := [], fifoError := true }

/-- An interruption (R185): a byte awaiting acceptance counts as not accepted and its busy timer stops, the segment is
interrupted, and BLOCK is left for COMPAT, through ERROR with a segment in transfer (R186). A read in progress
goes on with its own busy timer. -/
def interrupt (s : State) : State :=
  let s1 := s.setPort { s.port with
    current := none
    busyTimer := if s.port.reading.isSome then s.port.busyTimer else none }
  let s2 := interruptSegment s1
  match s2.port.mode with
  | .block => enterCompat (if s1.port.segment.isSome then fifoError s2 else s2)
  | _ => s2

/-! ## Cancelling (R168, R190) -/

/-- The Print Unit tells the port to stop a job cancelled in PRINTING (R190): what has not been offered or loaded is dropped
and a stop is in progress. In BLOCK the loaded bytes drain first. -/
def stopPort (p : Port) : Port :=
  match p.mode with
  | .block => { p with segment := p.segment.map (fun t => { t with coded := [] }), stopping := true }
  | _ =>
    let keep := match p.current with
      | some c => c.offered || c.source == .discard
      | none => false
    let timer := if p.reading.isSome || keep then p.busyTimer else none
    { p with
      segment := none
      current := if keep then p.current else none
      busyTimer := timer
      stopping := true }

/-- The Print Unit tells the port to drop the segments of a job cancelled in STALLED (R190). -/
def dropSegments (p : Port) : Port :=
  match p.segment with
  | none => p
  | some t => { p with segment := none, discardPending := p.discardPending || t.offered }

/-- The port's part in the cancelling of a job, by the job's state (R168, R190). -/
def cancelAtPort (j : Job) (s : State) : State :=
  match j.state with
  | .printing => s.setPort (stopPort s.port)
  | .stalled => s.setPort (dropSegments s.port)
  | _ => s

/-- A job ends CANCELLED but for its report (R168). -/
def cancelQuietly (j : Job) (s : State) : State := endJobQuietly j .cancelled .none (cancelAtPort j s)

/-- Every job bound to a ticket number is cancelled, in the order of the queue (R113, R130, R168). Their reports find the
ticket ended and are discarded, so none is made. -/
def cancelBound (number : Nat) (s : State) : State :=
  (s.print.jobs.filter fun j => j.ticket == some number).foldl (fun s j => cancelQuietly j s) s

/-! ## Port enable (R189) -/

/-- The port is disabled (R189). -/
def disablePrinter (s : State) : State :=
  let s1 := enterCompat (interrupt s)
  let s2 := s1.setPort { s1.port with
    discardPending := s1.port.discardPending || s1.port.stopping
    stopping := false
    reading := none
    due := none
    busyTimer := none
    pollTimer := none }
  run (setStall (some .portOff) s2)

/-- The port is enabled: it makes its capability read at once (R189). With the presence ABSENT the poll timer stays stopped
until that read ends (notes/assumptions/52.md). -/
def enablePrinter (s : State) : State := run (makeDue .other s)

/-- The port's part in LANE RESET (R192): the transfer stops and is dropped, COMPAT, line discard pending; a read in progress
is begun again at once. A further read due stays due (notes/assumptions/53.md). -/
def resetPort (s : State) : State :=
  let s1 := enterCompat s
  let s2 := s1.setPort { s1.port with
    segment := none
    current := none
    stopping := false
    discardPending := true
    reading := none
    busyTimer := none }
  match s.port.reading with
  | none => s2
  | some cause =>
    if s.store.settings.printerEnable then
      let s3 := leaveCompat .status s2
      s3.setPort { s3.port with reading := some cause, busyTimer := some s.store.settings.busyLimit }
    else s2

end Sys2Proof.Machine
end

