-- ==== Sys2Proof/Machine/PrintRequests.lean ====
section
/-! DEFINITION. The requests of the Print Unit and the events of the Printer Port (chapters 10 and 11). -/

namespace Sys2Proof.Machine

/-! ## JOB OPEN (R160, R161) -/

/-- The job number after `n` (R160). -/
def nextJobNumber (n : Nat) : Nat := if n = 255 then 1 else n + 1

/-- The first number from `n` on that no job of the queue carries (R160); `fuel` bounds the search. -/
def freeNumber (p : Print) : Nat → Nat → Nat
  | 0, n => n
  | fuel + 1, n => if (findJob p n).isSome then freeNumber p fuel (nextJobNumber n) else n

/-- The number JOB OPEN gives: at most eight are in use (R160). -/
def newJobNumber (p : Print) : Nat := freeNumber p Config.maxJobs p.next

/-- A fresh job (R161). -/
def freshJob (number : Nat) (f : JobFields) : Job where
  number := number
  ticket := if f.bound then some f.ticket else none
  stream := f.stream
  submitted := false
  reply := none
  state := if f.stream then .queued else .loading
  segments := []
  position := .own 0
  stack := []
  missingFragment := false
  missingLine := false
  printedTotal := false
  stall := none
  restart := false

/-- The binding of a JOB OPEN names the current ticket, or none (R161 step 2). -/
def bindingHolds (f : JobFields) (s : State) : Bool :=
  !f.bound || (match s.ticket.current with
    | some t => t.number == f.ticket
    | none => false)

/-- The opening of a bound job is reported to the Ticket Unit (R161, R127). -/
def reportJobOpen (f : JobFields) (s : State) : State := if f.bound then evaluateClosing s else s

/-- JOB OPEN is taken (R161). -/
def takeJobOpen (f : JobFields) (who : Admitted) (s : State) : State :=
  if Config.maxJobs ≤ s.print.jobs.length then respond who .full .none [] s
  else if !bindingHolds f s then respond who .rejected .ticketState [] s
  else
    let n := newJobNumber s.print
    let s1 := s.setPrint {
      jobs := s.print.jobs ++ [freshJob n f]
      next := nextJobNumber n
      order := if f.stream then s.print.order ++ [n] else s.print.order }
    run (respond who .ok .none (u8 n) (reportJobOpen f s1))

/-! ## SEGMENT, SUBMIT, CANCEL (R163, R166, R168) -/

/-- The job takes segments (R163 step 3). -/
def takesSegments (j : Job) : Bool := j.state == .loading || (j.stream && !j.submitted)

/-- An INSERT segment. -/
def isInsert : Segment → Bool
  | .insert _ _ => true
  | _ => false

/-- A job with a segment appended; in WAITING_DATA it moves on at the new segment (R163). -/
def appendSegment (j : Job) (g : Segment) : Job :=
  let j1 := { j with segments := j.segments ++ [g] }
  if j.state = .waitingData then toPrinting j1 else j1

/-- SEGMENT is taken (R163). -/
def takeSegment (f : SegmentFields) (who : Admitted) (s : State) : State :=
  match findJob s.print f.job with
  | none => respond who .notFound .none [] s
  | some j =>
    if !takesSegments j then respond who .rejected .jobState [] s
    else if isInsert f.segment ∧ j.ticket.isNone then respond who .badField .none [] s
    else if Config.maxSegments ≤ j.segments.length ∨ freeBlocks s.print < segmentBlocks f.segment then
      respond who .full .none [] s
    else
      let s1 := putJob (appendSegment j f.segment) s
      run (respond who .ok .none (u8 j.segments.length ++ u16 (freeBlocks s1.print)) s1)

/-- A submitted job: LOADING joins the print order list, a stream job at the end of its segments ends, any other keeps its
state and place (R166). -/
def submitJob (j : Job) (s : State) : State :=
  match j.state with
  | .loading =>
    let s1 := putJob { j with state := .queued } s
    s1.setPrint { s1.print with order := s1.print.order ++ [j.number] }
  | .waitingData => endJob j .done .none s
  | _ => putJob j s

/-- SUBMIT is taken (R166); its response waits for the end of the job. -/
def takeSubmit (n : Nat) (who : Admitted) (s : State) : State :=
  match findJob s.print n with
  | none => respond who .notFound .none [] s
  | some j =>
    if j.submitted then respond who .rejected .jobState [] s
    else run (submitJob { j with submitted := true, reply := some who } s)

/-- CANCEL is taken (R168): its response comes before that of the job's SUBMIT. -/
def takeCancel (n : Nat) (who : Admitted) (s : State) : State :=
  match findJob s.print n with
  | none => respond who .notFound .none [] s
  | some j => run (endJob j .cancelled .none (cancelAtPort j (respond who .ok .none [] s)))

/-! ## Events of the Printer Port -/

/-- A job that is due to start starts (R162). -/
def jobStarts (s : State) : State :=
  match jobToStart s with
  | some j => run (startJob j s)
  | none => s

/-- A status read that is due begins (R184). -/
def readStarts (s : State) : State := if readCanStart s then run (startRead s) else s

/-- The port leaves BLOCK once the FIFO has drained (R181). -/
def blockExits (s : State) : State := if blockDrained s.port then run (exitBlock s) else s

/-- The printer pulses ACK: the byte offered is accepted; an ACK with no byte offered is ignored (R180). -/
def printerAcks (s : State) : State :=
  match s.port.current with
  | some c => if c.offered then run (acceptByte c s) else s
  | none => s

/-- The read in progress ends: COMPAT, and its timer stops (R187). -/
def endRead (s : State) : State :=
  let s1 := enterCompat s
  s1.setPort { s1.port with reading := none, busyTimer := none }

/-- A stop in progress ends with line discard pending (R190). -/
def endStop (s : State) : State :=
  if s.port.stopping then
    s.setPort { s.port with stopping := false, discardPending := true, segment := none }
  else s

/-- The busy timer of a read expires without an answer (R187); a stop in progress ends with it (R190). -/
def readTimeout (s : State) : State :=
  let s1 := endStop (endRead s)
  rearmPoll (setStall (some .printerAbsent) (s1.setPort { s1.port with presence := .absent }))

/-- The busy timer expires (R180, R185, R187, R190). -/
def busyTimeout (s : State) : State :=
  match s.port.busyTimer, s.port.reading with
  | none, _ => s
  | some _, some _ => run (readTimeout s)
  | some _, none => run (makeDue .busyTimer (endStop (interrupt s)))

/-- FAULT or PAPER_OUT has changed (R184, R185); at a disabled port it is not acted on (R189). -/
def printerLineChanged (asserted : Bool) (s : State) : State :=
  if !s.store.settings.printerEnable then s
  else run (makeDue .other (if asserted then interrupt s else s))

/-- The poll timer expires: it starts again and a read is due (R184). -/
def pollTimeout (s : State) : State :=
  match s.port.pollTimer with
  | none => s
  | some _ => run (makeDue .other (s.setPort { s.port with pollTimer := some Config.pollInterval }))

/-- The six meaningful bits of a status byte (Table 1-9). -/
def statusOf (b : Byte) : PrinterStatus where
  paperOut := b.getLsbD 0
  paperLow := b.getLsbD 1
  coverOpen := b.getLsbD 2
  headHot := b.getLsbD 3
  fault := b.getLsbD 4
  blockCapable := b.getLsbD 5

/-- The stall reason an answer gives: the first entry of the order of R187 that holds. -/
def judgeStall (status : PrinterStatus) (busy : Bool) (cause : ReadCause) (stall : Option Stall) : Option Stall :=
  if status.paperOut then some .paperOut
  else if status.coverOpen then some .coverOpen
  else if status.headHot then some .headHot
  else if status.fault then some .printerFault
  else if busy && (cause == .busyTimer || stall == some .notResponding) then some .notResponding
  else none

/-- Every answered read sets or clears the lamp reason PAPER_OUT (R188). -/
def paperReason (out : Bool) (s : State) : State := if out then raiseReason .paperOut s else clearReason .paperOut s

/-- The status byte is answered to the read in progress (R187, R188). -/
def statusAnswered (b : Byte) (cause : ReadCause) (s : State) : State :=
  let status := statusOf b
  let s1 := endRead s
  let s2 := s1.setPort { s1.port with presence := .present, status := status, capable := status.blockCapable }
  let stall := judgeStall status s.pins.printerBusy cause s.port.stall
  run (rearmPoll (setStall stall (paperReason status.paperOut s2)))

/-- A status answer; with no read in progress it is ignored (R187). -/
def statusArrives (b : Byte) (busy : Bool) (s : State) : State :=
  match s.port.reading with
  | none => s
  | some cause => statusAnswered b cause (s.setPins { s.pins with printerBusy := busy })

end Sys2Proof.Machine
end

