-- ==== Sys2Proof/Machine/CardOps.lean ====
section
/-! DEFINITION. The Card Unit and the Operator Unit (chapters 4 and 5): record assembly, the seven steps of a record, the
slot, outcomes and answers, sign-on and grants. -/

namespace Sys2Proof.Machine

/-! ## Outcomes and answers (R66, R77) -/

/-- The outcome number after `n` (R77). -/
def nextOutcome (n : Nat) : Nat := if n = 255 then 1 else n + 1

/-- What is known of a card when its outcome is decided (R77). -/
structure CardFacts where
  cardClass : Option CardClass
  source : Option CardSource
  masked : Option (List Byte)
deriving DecidableEq, Repr

/-- An outcome is decided: its number advances and the last-outcome record is replaced (R77). -/
def decideOutcome (o : CardOutcome) (f : CardFacts) (s : State) : State :=
  let n := nextOutcome s.card.outcomeNumber
  s.setCard { s.card with outcomeNumber := n, last := some ⟨n, o, f.cardClass, f.source, f.masked⟩ }

/-- The byte of an answer on RDR_TX: ACK or NAK (R66). -/
def Answer.byte : Answer → Byte
  | .ack => 0x06#8
  | .nak => 0x15#8

/-- The byte the part sends on RDR_TX, and its rate (R63, R66). -/
def readerLine (c : Card) : Option (Byte × Nat) := c.sending.map fun x => (x.answer.byte, x.rate)

/-- The next queued answer starts when the line is free (R66). -/
def startAnswer (g : Settings) (c : Card) : Card :=
  match c.sending, c.answers with
  | none, a :: rest => { c with sending := some ⟨a, g.readerRate⟩, answers := rest }
  | _, _ => c

/-- The answer of an outcome that results from a record (R66). -/
def answerOf (o : CardOutcome) : Answer :=
  match outcomeKind o with
  | .accepted => .ack
  | _ => .nak

/-- A record's outcome is decided and its answer queued (R66, R77). -/
def recordOutcome (o : CardOutcome) (f : CardFacts) (s : State) : State :=
  let s1 := decideOutcome o f s
  s1.setCard (startAnswer s1.store.settings { s1.card with answers := s1.card.answers ++ [answerOf o] })

/-- Nothing is known of the card. -/
def noFacts : CardFacts := ⟨none, none, none⟩

/-! ## Reading a record (R68 to R73) -/

/-- A record that passed step 2. -/
structure CardRecord where
  source : CardSource
  digits : List Byte
  expiry : Option (List Byte)
deriving DecidableEq, Repr

/-- The LRC of the characters between STX and ETX (R68). -/
def recordLrc (chars : List Byte) : Byte := chars.foldl (· ^^^ ·) 0x00#8 ^^^ 0x03#8

/-- The source a character names (R68). -/
def sourceOf (b : Byte) : Option CardSource :=
  if b = 0x53#8 then some .stripe else if b = 0x43#8 then some .contactless else none

/-- Four digits YYMM with a month in 01..12 (R68). -/
def expiryForm (e : List Byte) : Bool := e.length == 4 && e.all isDigit && within 1 12 (digitsValue (e.drop 2))

/-- What follows the account digits: nothing, or '=' and an expiry (R68). -/
def readExpiry : List Byte → Option (Option (List Byte))
  | [] => some none
  | b :: e => if b = 0x3D#8 ∧ expiryForm e then some (some e) else none

/-- Step 2: the characters as a record (R68). -/
def readRecord (chars : List Byte) : Option CardRecord :=
  match chars with
  | [] => none
  | b :: rest =>
    let digits := rest.takeWhile isDigit
    match sourceOf b, readExpiry (rest.dropWhile isDigit) with
    | some source, some expiry => if within 12 19 digits.length then some ⟨source, digits, expiry⟩ else none
    | _, _ => none

/-- The first eight account digits as a number (R70). -/
def cardIndex (digits : List Byte) : Nat := digitsValue (digits.take 8)

/-- An entry contains a number (R69). -/
def contains (e : RangeEntry) (p : Nat) : Bool := e.low ≤ p && p ≤ e.high

/-- The value a digit adds in the check of R71. -/
def checkDigitValue (doubled : Bool) (b : Byte) : Nat :=
  let d := b.toNat - 0x30
  if doubled then (if 9 < 2 * d then 2 * d - 9 else 2 * d) else d

/-- The sum of R71 over digits from the rightmost on. -/
def checkDigitSum : Bool → List Byte → Nat
  | _, [] => 0
  | doubled, b :: rest => checkDigitValue doubled b + checkDigitSum (!doubled) rest

/-- Step 5: the check over every account digit (R71). -/
def checkDigitPasses (digits : List Byte) : Bool := checkDigitSum false digits.reverse % 10 == 0

/-- Digits with '*' at the places a number names: the place it leaves on division by their count, and each place its
further bits mark. At least one '*' stands among them. -/
def starDigits (n : Nat) (digits : List Byte) : List Byte :=
  digits.mapIdx fun i b =>
    if i = n % digits.length ∨ (n / digits.length).testBit i = true then 0x2A#8 else b

/-- The masked form of account digits (R73). It is formed for a record whose digit count the entry may still refuse: of one
with no more digits than `first` and `last` together the manual says only that at least one '*' stands in it, and a free
value says where (notes/assumptions/50.md). -/
def maskDigits (first last : Nat) (digits : List Byte) : List Byte :=
  if first + last < digits.length then
    digits.take first ++ List.replicate (digits.length - first - last) 0x2A#8 ++ digits.drop (digits.length - last)
  else starDigits (Config.maskPlaces first last digits) digits

/-! ## The lane clock as a month (R72, R136) -/

/-- A Gregorian leap year. -/
def leapYear (y : Nat) : Bool := y % 4 == 0 && (y % 100 != 0 || y % 400 == 0)

/-- Days of a year. -/
def yearDays (y : Nat) : Nat := if leapYear y then 366 else 365

/-- Days of the months of a year. -/
def monthDays (y : Nat) : List Nat := [31, if leapYear y then 29 else 28, 31, 30, 31, 30, 31, 31, 30, 31, 30, 31]

/-- The month, from `m` on, that day `d` of the months listed falls in. -/
def monthOf : List Nat → Nat → Nat → Nat
  | [], m, _ => m
  | n :: rest, m, d => if d < n then m else monthOf rest (m + 1) (d - n)

/-- The year and month of day `d` of year `y`, within `fuel` years. -/
def yearMonth : Nat → Nat → Nat → Nat × Nat
  | 0, y, _ => (y, 1)
  | fuel + 1, y, d => if d < yearDays y then (y, monthOf (monthDays y) 1 d) else yearMonth fuel (y + 1) (d - yearDays y)

/-- The year and month of a lane clock reading: seconds since 2000-01-01 00:00:00 (R72); the largest reading falls
in 2136. -/
def clockMonth (t : Nat) : Nat × Nat := yearMonth 200 2000 (t / 86400)

/-- A card's expiry comes before the clock's year and month (R72). -/
def expiredAt (clock : Nat) (expiry : List Byte) : Bool :=
  let now := clockMonth clock
  let year := 2000 + digitsValue (expiry.take 2)
  let month := digitsValue (expiry.drop 2)
  year < now.1 || (year == now.1 && month < now.2)

/-- Step 6: the outcome of a failed expiry test, or `none` where it passes (R72). -/
def expiryFails (clock : Option Nat) (required : Bool) (expiry : Option (List Byte)) : Option CardOutcome :=
  if !required then none
  else match expiry, clock with
    | none, _ => some .format
    | some _, none => none
    | some e, some t => if expiredAt t e then some .expired else none

/-! ## Operators and grants (R87, R90) -/

/-- A sign-on (R87, R88). The SIGN_ON entry carries the new operator's number. -/
def signOnAs (number : Nat) (source : SignSource) (s : State) : State :=
  journal (.signOn source) (s.setStaff { s.staff with operator := some ⟨number, source⟩ })

/-- A sign-off (R87, R89). The SIGN_OFF entry carries the number of the operator signing off. -/
def signOffAs (number : Nat) (source : SignSource) (s : State) : State :=
  journalAs number (.signOff source) (s.setStaff { s.staff with operator := none })

/-- A cashier card (R87). -/
def cashierCard (number : Nat) (s : State) : State × CardOutcome :=
  match s.staff.operator with
  | none => (signOnAs number .card s, .signedOn)
  | some o =>
    if o.number ≠ number then (s, .otherOperator)
    else if idle s then (signOffAs number .card s, .signedOff)
    else (s, .ticketActive)

/-- A supervisor card (R90). The notice is owed even where only the timer starts again (R95). -/
def supervisorCard (number : Nat) (s : State) : State × CardOutcome :=
  let window := s.store.settings.grantWindow
  let s1 := (s.setStaff { s.staff with grant := some ⟨number, window⟩ }).setDraws
    { s.draws with grant := s.draws.grant.begin window }
  (markOwed .operatorState (clearReason .drawerForced (clearReason .supervisorNeeded s1)), .granted)

/-! ## Class actions (R74 to R76) -/

/-- A PAYMENT or GIFT card (R74). -/
def slotAction (cardClass : CardClass) (masked : List Byte) (r : CardRecord) (s : State) : State × CardOutcome :=
  match ticketState s, s.card.slot with
  | .idle, _ => (s, .noTicket)
  | .settled, _ => (s, .noTicket)
  | _, .empty =>
    let card : HeldCard := ⟨cardClass, r.source, r.digits, masked, r.expiry, s.journal.clock.getD 0⟩
    let lifetime := s.store.settings.slotLifetime
    ((s.setCard { s.card with slot := .presented card lifetime }).setDraws
      { s.draws with slot := s.draws.slot.begin lifetime }, .presented)
  | _, _ => (s, .slotBusy)

/-- A LOYALTY card (R75). -/
def loyaltyAction (masked : List Byte) (s : State) : State × CardOutcome :=
  match s.ticket.current with
  | none => (s, .noTicket)
  | some t =>
    if t.phase = .settled then (s, .noTicket)
    else match t.loyalty with
      | some _ => (s, .alreadyAttached)
      | none => (s.setTicket { s.ticket with current := some { t with loyalty := some masked } }, .attached)

/-- The operator or supervisor number: the last six account digits (R76). -/
def staffNumber (digits : List Byte) : Nat := digitsValue (digits.drop (digits.length - 6))

/-- Step 7: the action of the entry's class (R74, R75, R76). -/
def classAction (e : RangeEntry) (masked : List Byte) (r : CardRecord) (s : State) : State × CardOutcome :=
  let number := staffNumber r.digits
  match e.cardClass with
  | .payment => slotAction .payment masked r s
  | .gift => slotAction .gift masked r s
  | .loyalty => loyaltyAction masked s
  | .cashier => if number = 0 then (s, .format) else cashierCard number s
  | .supervisor => if number = 0 then (s, .format) else supervisorCard number s

/-- Steps 4 to 7 with the entry found (R70 to R76). -/
def judgeEntry (e : RangeEntry) (r : CardRecord) (s : State) : State :=
  let masked := maskDigits e.keepFirst e.keepLast r.digits
  let facts : CardFacts := ⟨some e.cardClass, some r.source, some masked⟩
  if !within e.minLength e.maxLength r.digits.length then recordOutcome .length facts s
  else if e.checkDigit ∧ !checkDigitPasses r.digits then recordOutcome .luhn facts s
  else match expiryFails s.journal.clock e.expiry r.expiry with
    | some o => recordOutcome o facts s
    | none =>
      let done := classAction e masked r s
      recordOutcome done.2 facts done.1

/-- A complete record is judged (R68 to R76). -/
def processRecord (chars : List Byte) (lrc : Byte) (s : State) : State :=
  if recordLrc chars ≠ lrc then recordOutcome .check noFacts s
  else match readRecord chars with
    | none => recordOutcome .format noFacts s
    | some r =>
      match s.store.settings.ranges.find? fun e => contains e (cardIndex r.digits) with
      | none => recordOutcome .noRange ⟨none, some r.source, none⟩ s
      | some e => judgeEntry e r s

/-! ## Record assembly (R64, R65) -/

/-- The assembler moves on, with its timer started again outside HUNTING (R64, R65). -/
def assemble (a : ReaderAssembler) (s : State) : State :=
  let timer := match a with
    | .hunting => none
    | _ => some s.store.settings.readerLimit
  s.setCard { s.card with assembler := a, charTimer := timer }

/-- The most characters the buffer holds, and the one more that makes the record overlong (R64). -/
def bufferFull (chars : List Byte) : Bool := Config.readerBuffer ≤ chars.length

/-- A byte received on RDR_RX (R64); with the port disabled it is ignored (R67). A record marks what it changes by itself, as
several records may arrive in one command (notes/assumptions/11.md). -/
def readerByte (s : State) (b : Byte) : State :=
  if !s.store.settings.cardEnable then s
  else match s.card.assembler with
    | .hunting => if b = 0x02#8 then assemble (.body []) s else s
    | .body chars =>
      if b = 0x03#8 then assemble (.awaitLrc chars) s
      else if bufferFull chars then recordOutcome .long noFacts (assemble (.skipping false) s)
      else assemble (.body (chars ++ [b])) s
    | .awaitLrc chars => noting (processRecord chars b) (assemble .hunting s)
    | .skipping false => assemble (.skipping (b == 0x03#8)) s
    | .skipping true => assemble .hunting s

/-- Bytes received on RDR_RX, in order. -/
def readerBytes (bytes : List Byte) (s : State) : State := bytes.foldl readerByte s

/-- The character timer expires (R65). -/
def charTimeout (s : State) : State :=
  match s.card.charTimer, s.card.assembler with
  | none, _ => s
  | some _, .hunting => assemble .hunting s
  | some _, .body _ => recordOutcome .timeout noFacts (assemble .hunting s)
  | some _, .awaitLrc _ => recordOutcome .timeout noFacts (assemble .hunting s)
  | some _, .skipping _ => assemble .hunting s

/-- An answer byte has been sent; the next queued one starts (R66). -/
def answerSent (s : State) : State := s.setCard (startAnswer s.store.settings { s.card with sending := none })

/-! ## The slot (R80 to R82) -/

/-- The facts of a card that leaves the slot (R77). -/
def heldFacts (c : HeldCard) : CardFacts := ⟨some c.cardClass, some c.source, some c.masked⟩

/-- The slot lifetime expires (R80). -/
def slotTimeout (s : State) : State :=
  match slotCard s.card.slot with
  | none => s
  | some (c, _) => decideOutcome .slotExpired (heldFacts c) (emptySlot s)

/-- The fields of READ CARD (R81). -/
def writeHeld (c : HeldCard) : List Byte :=
  string c.digits ++ u8 (cardSourceCode c.source) ++ u8 (cardClassCode c.cardClass) ++ optional string c.expiry
    ++ u32 c.presented

/-- READ CARD is taken (R81). -/
def takeReadCard (who : Admitted) (s : State) : State :=
  match slotCard s.card.slot with
  | none => respond who .notFound .none [] s
  | some (c, timer) => respond who .ok .none (writeHeld c) (s.setCard { s.card with slot := .read c timer })

/-- CLEAR CARD is taken (R82). -/
def takeClearCard (who : Admitted) (s : State) : State :=
  match slotCard s.card.slot with
  | none => respond who .notFound .none [] s
  | some (c, _) => respond who .ok .none [] (decideOutcome .cleared (heldFacts c) (emptySlot s))

/-! ## Operator requests (R88, R89) and the grant timer (R91) -/

/-- SIGN ON is taken (R88). -/
def takeSignOn (number : Nat) (who : Admitted) (s : State) : State :=
  if s.store.settings.cardSignOn then respond who .rejected .cardRequired [] s
  else if s.staff.operator.isSome then respond who .rejected .signedOn [] s
  else respond who .ok .none (u32 number) (signOnAs number .link s)

/-- SIGN OFF is taken (R89). -/
def takeSignOff (who : Admitted) (s : State) : State :=
  match s.staff.operator with
  | none => respond who .rejected .noOperator [] s
  | some o =>
    if !idle s then respond who .rejected .ticketState [] s
    else respond who .ok .none (u32 o.number) (signOffAs o.number .link s)

/-- The grant timer expires (R91). -/
def grantTimeout (s : State) : State := s.setStaff { s.staff with grant := none }

/-! ## Settings of the reader port (R63, R67) -/

/-- The assembler returns to HUNTING with no outcome. -/
def dropRecord (c : Card) : Card := { c with assembler := .hunting, charTimer := none }

/-- The reader rate changes (R63). -/
def changeReaderRate (s : State) : State := s.setCard (dropRecord s.card)

/-- The card port is disabled (R67). -/
def disableCard (s : State) : State := emptySlot (s.setCard { dropRecord s.card with answers := [] })

/-- The card port is enabled (R67). -/
def enableCard (s : State) : State := s.setCard { dropRecord s.card with slot := .empty }

end Sys2Proof.Machine
end

