-- ==== Sys2Proof/Machine/ScaleOps.lean ====
section
/-! DEFINITION. The Scale Unit (chapters 2 and 3): filter, calibration, zero, tare, the scale states, the operation in
flight, and the taking of SCALE requests. -/

namespace Sys2Proof.Machine

/-! ## Calibration (R25) -/

/-- The weight a segment of the calibration table gives a count (R25). -/
def segmentWeight (a b : CalPoint) (c : Int) : Int :=
  a.weight + roundHalfAway ((c - a.count) * (b.weight - a.weight)) (b.count - a.count).toNat

/-- The weight of a filtered count: the first segment below the second point, the last from the last point but one on,
otherwise the segment the count lies in (R25). A table of fewer than two points gives no weight. -/
def convert : List CalPoint → Int → Int
  | a :: b :: rest, c =>
    match rest with
    | [] => segmentWeight a b c
    | _ => if c < b.count then segmentWeight a b c else convert (b :: rest) c
  | _, _ => 0

/-! ## Filter (R23, R24) -/

/-- The filtered count of a window after `joined` counts have joined since the clear (R23). -/
def filteredCount (length joined : Nat) (window : List Int) : Option Int :=
  if length ≤ joined then some (roundHalfUp ((window.drop (window.length - length)).sum) length) else none

/-- A list in order of arrival that keeps its `n` newest entries. -/
def keepNewest {α : Type} (n : Nat) (xs : List α) : List α := xs.drop (xs.length - n)

/-- A count joins the sample window (R23). -/
def joinWindow (count : Int) (c : Scale) : Scale :=
  { c with window := keepNewest Config.windowSize (c.window ++ [count]), joined := c.joined + 1 }

/-- Empties the filtered-weight window; the scale is moving and the tracking count is 0 (R35, R39). -/
def emptyWeights (c : Scale) : Scale := { c with weights := [], stable := false, tracking := 0 }

/-- Clears the filter (R24). -/
def clearFilter (c : Scale) : Scale := { emptyWeights c with window := [], joined := 0, latest := none }

/-- The zero reference becomes unset, and the tare absent with it (R36, R45). -/
def unsetZero (c : Scale) : Scale := { c with zero := none, zero0 := none, tare := none }

/-! ## The end of a scale operation -/

/-- A certified weight record (R57). -/
structure Certified where
  record : Nat
  item : Nat
  gross : Int
  tare : Nat
  net : Int
  unitPrice : Nat
  base : PriceBase
  price : Nat
  range : Nat
  division : Nat
  calCount : Nat
  lane : Nat
deriving DecidableEq, Repr

/-- The fields of a WEIGH response: the twelve record fields and the line number (R59). -/
def writeCertified (c : Certified) (line : Nat) : List Byte :=
  u16 c.record ++ u32 c.item ++ i32 c.gross ++ u32 c.tare ++ i32 c.net ++ u32 c.unitPrice
    ++ u8 (priceBaseCode c.base) ++ u32 c.price ++ u8 c.range ++ u8 c.division ++ u32 c.calCount ++ u8 c.lane
    ++ u8 line

/-- The fields of a WEIGH response that reports no record: the request echoed, every other field 0 (R59). -/
def echoFields (e : WeighEcho) : List Byte :=
  u16 0 ++ u32 e.item ++ i32 0 ++ u32 0 ++ i32 0 ++ u32 e.price ++ u8 e.base ++ u32 0 ++ u8 0 ++ u8 0 ++ u32 0 ++ u8 0
    ++ u8 0

/-- The fields of a response that reports no work: the echo of a WEIGH, else none (R12, R59). BAD_FIELD for a request that is
not well-formed has none: `malformed`. -/
def plainFields (r : Admitted) : List Byte :=
  match r.echo with
  | some e => echoFields e
  | none => []

/-- Answers a request with a result other than OK. -/
def refuse (r : Admitted) (result : Result) (reason : Reason) (s : State) : State :=
  respond r result reason (plainFields r) s

/-- The scale operation in flight ends (R44). -/
def endOp (s : State) : State := s.setScale { s.scale with op := none }

/-- The request an operation answers. -/
def opWho : ScaleOp → Admitted
  | .zero who _ => who
  | .tare who _ => who
  | .weigh who _ _ _ => who

/-- The operation in flight, if any, ends without a decision (R38, R47, R56). -/
def stopOp (result : Result) (reason : Reason) (s : State) : State :=
  match s.scale.op with
  | none => s
  | some op => refuse (opWho op) result reason (endOp s)

/-- The operation in flight at a change of scale state (R38, R47, R55, R56). -/
def opAtState (new : ScaleState) (s : State) : State :=
  match new, s.scale.op with
  | .ready, _ => s
  | .fault, _ => stopOp .fault .scaleFault s
  | .off, _ => stopOp .rejected .scaleState s
  | .uncalibrated, _ => stopOp .rejected .scaleState s
  | _, some (.weigh who f timer _) => s.setScale { s.scale with op := some (.weigh who f timer .notReady) }
  | _, _ => stopOp .rejected .scaleState s

/-- SCALE_FAULT at a change of scale state: raised in FAULT, kept in SETTLING, cleared in the others (R21, R22). -/
def faultReason (new : ScaleState) (s : State) : State :=
  match new with
  | .fault => raiseReason .scaleFault s
  | .settling => s
  | _ => clearReason .scaleFault s

/-- The values held only in READY are dropped on leaving it (R33). -/
def keptReading (new : ScaleState) (c : Scale) : Option Reading :=
  match new with
  | .ready => c.reading
  | _ => none

/-- The scale enters a state. -/
def enterScale (new : ScaleState) (s : State) : State :=
  opAtState new (faultReason new (s.setScale { s.scale with state := new, reading := keptReading new s.scale }))

/-- The scale enters FAULT: the filter is cleared; Z, Z0 and the tare stay (R21). -/
def enterFault (s : State) : State := enterScale .fault (s.setScale (clearFilter s.scale))

/-- The state outside FAULT and OFF while no weight is formed: SETTLING with the metrology usable (R21, R22, R43). -/
def restState (s : State) : ScaleState := if usable s then .settling else .uncalibrated

/-- A clear of the filter that in NO_ZERO or READY moves the scale to SETTLING (R24). -/
def clearAndSettle (s : State) : State :=
  let s1 := s.setScale (clearFilter s.scale)
  match s.scale.state with
  | .noZero => enterScale .settling s1
  | .ready => enterScale .settling s1
  | _ => s1

/-- The Scale Unit judges usability after a report of the Settings Store (R31). -/
def judgeUsable (s : State) : State :=
  match s.scale.state with
  | .settling | .noZero | .ready =>
    if usable s then s else enterScale .uncalibrated (s.setScale (emptyWeights s.scale))
  | .uncalibrated => if usable s then enterScale .settling s else s
  | .fault => s
  | .off => s

/-- The effects of an accepted calibration edit on the Scale Unit (R28), the METRO area changed and judged. -/
def calibrationEdited (s : State) : State :=
  let s1 := s.setScale (emptyWeights (unsetZero s.scale))
  let s2 := match s.scale.state with
    | .ready => enterScale .noZero (s1.setScale { s1.scale with zeroOutOfRange := false })
    | .noZero => s1.setScale { s1.scale with zeroOutOfRange := false }
    | _ => s1
  judgeUsable (s2.setStore { s2.store with metroChanged := true })

/-- The METRO area has been replaced by a RELOAD or a revert: the filter is cleared, Z and Z0 become unset, and usability is
judged (R24, R31, R36). -/
def metroReplaced (s : State) : State := judgeUsable (clearAndSettle (s.setScale (unsetZero s.scale)))

/-- The scale port is disabled (R22). -/
def disableScale (s : State) : State :=
  enterScale .off (s.setScale { clearFilter s.scale with sampleTimer := none })

/-- The scale port is enabled (R20, R22). -/
def enableScale (s : State) : State :=
  enterScale (restState s) (s.setScale { clearFilter s.scale with sampleTimer := some s.store.metro.sampleTimeout })

/-! ## A filtered weight (R33, R34, R52, R53) -/

/-- The range of a gross raw weight (R33). -/
def rangeOf (m : Metro) (g : Int) : Nat := if g ≤ m.max1 * 1000 then 1 else 2

/-- The division of a range, in g (R33). -/
def divisionOf (m : Metro) (range : Nat) : Nat := if range = 1 then m.d1 else m.d2

/-- A raw weight in mg displayed with a division in g, in whole grams (R33, R52). -/
def displayed (g : Int) (division : Nat) : Int := roundHalfAway g (division * 1000) * division

/-- The reading a filtered weight gives with a zero reference, a tare in g and the arrival's OVR flag (R33, R34, R52). -/
def formReading (m : Metro) (zero : Int) (tare : Nat) (w : Int) (ovr : Bool) : Reading :=
  let g := w - zero
  let range := rangeOf m g
  let division := divisionOf m range
  { weight := w
    gross := g
    range := range
    division := division
    displayedGross := displayed g division
    displayedNet := displayed (g - tare * 1000) division
    overload := (m.max2 + 9 * m.d2) * 1000 < g || ovr
    underload := g < -(20 * m.d1 * 1000 : Int)
    centre := g.natAbs ≤ 250 * m.d1
    max1 := m.max1
    max2 := m.max2
    d1 := m.d1 }

/-- The value of the tare, 0 while absent (R52, R57). -/
def tareValue (c : Scale) : Nat :=
  match c.tare with
  | some t => t.value
  | none => 0

/-- The rearm flag at a gross raw weight: below ten divisions a clear flag is set, and with auto-clear on the tare becomes
absent (R53). -/
def rearmAt (m : Metro) (autoClear : Bool) (g : Int) (c : Scale) : Scale :=
  if g < 10 * m.d1 * 1000 ∧ !c.rearm then
    { c with rearm := true, tare := if autoClear then none else c.tare }
  else c

/-- READY forms and holds the values of a filtered weight; the rearm flag comes before the net (R33, R52, R53). -/
def holdReading (m : Metro) (autoClear : Bool) (w : Int) (ovr : Bool) (c : Scale) : Scale :=
  let zero := c.zero.getD 0
  let c1 := rearmAt m autoClear (w - zero) c
  { c1 with reading := some (formReading m zero (tareValue c1) w ovr) }

/-- The largest of a list of weights and the smallest differ by at most `band` (R35). -/
def withinBand (band : Nat) : List Int → Bool
  | [] => false
  | w :: ws => ws.foldl max w - ws.foldl min w ≤ band

/-- A weight joins the filtered-weight window and stability is judged (R35). -/
def joinWeight (m : Metro) (w : Int) (c : Scale) : Scale :=
  let weights := keepNewest m.motionWindow (c.weights ++ [w])
  { c with
    weights := weights
    stable := weights.length == m.motionWindow && withinBand (m.motionBand * m.d1 * 1000) weights }

/-- The power-up zero test in NO_ZERO (R36). -/
def powerUpZeroTest (w : Int) (ovr : Bool) (s : State) : State :=
  let m := s.store.metro
  if !s.scale.stable then s
  else if w.natAbs ≤ m.max2 * m.powerUpZero * 10 then
    let c := { s.scale with zero := some w, zero0 := some w, zeroOutOfRange := false }
    let s1 := enterScale .ready (s.setScale c)
    s1.setScale (holdReading m s.store.settings.tareAutoClear w ovr s1.scale)
  else s.setScale { s.scale with zeroOutOfRange := true }

/-- The weight of the latest reading counts for zero tracking (R39). -/
def tracks (m : Metro) (c : Scale) : Bool :=
  m.zeroTracking && c.tare.isNone && c.op.isNone && c.stable && (match c.reading with
    | some r => r.centre
    | none => false)

/-- The distance of a weight from the initial zero. -/
def fromZero0 (c : Scale) (w : Int) : Nat := (w - c.zero0.getD 0).natAbs

/-- The zero-tracking step in READY (R39). -/
def trackingStep (m : Metro) (w : Int) (c : Scale) : Scale :=
  if !tracks m c then { c with tracking := 0 }
  else if c.tracking + 1 < Config.trackingSteps then { c with tracking := c.tracking + 1 }
  else if fromZero0 c w ≤ m.max2 * 40 then { c with tracking := 0, zero := some w }
  else { c with tracking := 0 }

/-! ## Deciding the operation in flight -/

/-- ZERO is decided on a reading, with the MAX2 in force at it (R32, R37). -/
def decideZero (who : Admitted) (r : Reading) (s : State) : State :=
  if fromZero0 s.scale r.weight ≤ r.max2 * s.store.metro.zeroSetting * 10 then
    respond who .ok .none [] (s.setScale { s.scale with op := none, zero := some r.weight, tracking := 0 })
  else respond who .rejected .outOfZeroRange [] (endOp s)

/-- TARE is decided on a reading, with the MAX1 in force at it (R32, R46). -/
def decideTare (who : Admitted) (r : Reading) (s : State) : State :=
  if r.overload || r.underload || r.displayedGross ≤ 0 || r.max1 < r.displayedGross then
    respond who .rejected .tareRange [] (endOp s)
  else
    let value := r.displayedGross.toNat
    respond who .ok .none (u32 value) (s.setScale { s.scale with op := none, tare := some ⟨value, .semi, 0⟩ })

/-- The first condition of a capture that fails, or `none` where it is satisfied, with the d1 and MAX2 in force at the
reading (R32, R55). -/
def captureBlock (s : State) : Option Reason :=
  match shownReading s with
  | none => some .notReady
  | some r =>
    if !s.scale.stable then some .moving
    else if r.overload then some .overload
    else if r.underload then some .underload
    else if r.displayedNet < 20 * r.d1 then some .belowMin
    else if r.max2 < r.displayedGross then some .aboveMax
    else none

/-- The price of a net weight in g (R60). -/
def priceOf (net : Int) (unitPrice : Nat) (base : PriceBase) : Int := roundHalfUp (net * unitPrice) (baseGrams base)

/-- The record formed from the reading that satisfied a capture (R57). Where the tare has changed since the reading was formed
and the WEIGH is satisfied at take, the record carries the tare present now beside the net formed with the former one; the
manual leaves this open (notes/assumptions/27.md). -/
def formRecord (f : WeighFields) (r : Reading) (s : State) : Certified where
  record := s.scale.nextRecord
  item := f.item
  gross := r.displayedGross
  tare := tareValue s.scale
  net := r.displayedNet
  unitPrice := f.price
  base := f.base
  price := (priceOf r.displayedNet f.price f.base).toNat
  range := r.range
  division := r.division
  calCount := s.store.counter
  lane := s.link.lane

/-- The next record number (R57). -/
def afterRecord (n : Nat) : Nat := if n = Config.maxRecord then 1 else n + 1

/-- The weight part of the WEIGHED line a record posts (R58). -/
def weightPart (c : Certified) : WeightPart :=
  ⟨c.net, c.gross, c.tare, c.unitPrice, c.base, c.record, c.calCount⟩

/-- A record is issued: its number is used, and the response carries it (R57, R58). -/
def issueRecord (who : Admitted) (c : Certified) (line : Nat) (s : State) : State :=
  respond who .ok .none (writeCertified c line)
    (s.setScale { s.scale with op := none, nextRecord := afterRecord s.scale.nextRecord })

/-- A completed capture with post = yes asks the Ticket Unit to append a WEIGHED line (R58). -/
def postRecord (who : Admitted) (c : Certified) (s : State) : State :=
  match s.ticket.current with
  | none => refuse who .rejected .ticketState (endOp s)
  | some t =>
    match appendRefusal t c.price with
    | some why => refuse who (appendResult why).1 (appendResult why).2 (endOp s)
    | none =>
      let s1 := setCurrent (appendLine t c.item c.price (.weighed (weightPart c))) s
      issueRecord who c (t.lines.length + 1) (s1.setScale { s1.scale with rearm := false })

/-- A capture completes (R58). -/
def completeCapture (who : Admitted) (f : WeighFields) (r : Reading) (s : State) : State :=
  let c := formRecord f r s
  if f.post then postRecord who c s else issueRecord who c 0 s

/-- A capture in flight is judged (R55). -/
def judgeCapture (who : Admitted) (f : WeighFields) (timer : Nat) (s : State) : State :=
  match captureBlock s, shownReading s with
  | none, some r => completeCapture who f r s
  | some reason, _ => s.setScale { s.scale with op := some (.weigh who f timer reason) }
  | none, none => s

/-- The operation in flight, if any, is judged against the latest reading (R37, R46, R55). -/
def judgeOp (s : State) : State :=
  match s.scale.op with
  | none => s
  | some (.weigh who f timer _) => judgeCapture who f timer s
  | some (.zero who _) =>
    match shownReading s with
    | some r => if s.scale.stable then decideZero who r s else s
    | none => s
  | some (.tare who _) =>
    match shownReading s with
    | some r => if s.scale.stable then decideTare who r s else s
    | none => s

/-! ## Taking SCALE requests (R44) -/

/-- An operation becomes the one in flight and is judged at once. -/
def startOp (op : ScaleOp) (s : State) : State := judgeOp (s.setScale { s.scale with op := some op })

/-- ZERO is taken (R37). -/
def takeZero (who : Admitted) (s : State) : State :=
  if s.scale.state ≠ .ready then respond who .rejected .scaleState [] s
  else if s.scale.tare.isSome then respond who .rejected .tareActive [] s
  else startOp (.zero who s.store.settings.motionWait) s

/-- TARE is taken (R46). -/
def takeTare (who : Admitted) (s : State) : State :=
  if s.scale.state ≠ .ready then respond who .rejected .scaleState [] s
  else startOp (.tare who s.store.settings.motionWait) s

/-- The tare table's entry for a code (R50). -/
def tareEntry (g : Settings) (code : Nat) : Option Nat := (g.tares[code - 1]?).getD none

/-- PRESET TARE with its raw value (R48 steps 3 to 6). It acts on no filtered weight, so it takes the d1 and MAX1 of the RAM
area as they stand, where R32 leaves open which values hold before the next filtered weight (notes/assumptions/49.md). -/
def applyPreset (who : Admitted) (code raw : Nat) (s : State) : State :=
  let value := (toMultipleUp raw s.store.metro.d1).toNat
  if s.store.metro.max1 < value then respond who .limit .none [] s
  else if value = 0 then respond who .rejected .tareRange [] s
  else
    let kind : TareKind := if code = 0 then .semi else .preset
    respond who .ok .none (u32 value ++ u8 code) (s.setScale { s.scale with tare := some ⟨value, kind, code⟩ })

/-- PRESET TARE is taken (R48). -/
def takePreset (who : Admitted) (f : PresetFields) (s : State) : State :=
  if s.scale.state = .off ∨ s.scale.state = .uncalibrated then respond who .rejected .scaleState [] s
  else if f.code = 0 then applyPreset who 0 f.value s
  else match tareEntry s.store.settings f.code with
    | none => respond who .notFound .none [] s
    | some raw => applyPreset who f.code raw s

/-- CLEAR TARE is taken (R49). -/
def takeClearTare (who : Admitted) (s : State) : State :=
  respond who .ok .none [] (s.setScale { s.scale with tare := none })

/-- READ SCALE is taken (R42). -/
def takeReadScale (who : Admitted) (s : State) : State := respond who .ok .none (writeScale (scaleSnapshot s)) s

/-- The wait in force for a WEIGH (R54). -/
def effectiveWait (g : Settings) (wait : Nat) : Nat := if wait = 0 then g.captureWait else min wait 10000

/-- The ticket is OPEN with a line list of which `full` is asked. -/
def openTicketWith (full : Ticket → Bool) (s : State) : Bool :=
  match s.ticket.current with
  | some t => t.phase == .opened && full t
  | none => false

/-- Why a WEIGH is refused at take (R54). -/
def weighRefusal (f : WeighFields) (s : State) : Option (Result × Reason) :=
  if calMode s then some (.rejected, .calMode)
  else if s.scale.state = .off ∨ s.scale.state = .uncalibrated then some (.rejected, .scaleState)
  else if f.post ∧ !openTicketWith (fun _ => true) s then some (.rejected, .ticketState)
  else if f.post ∧ !s.scale.rearm then some (.rejected, .sameLoad)
  else if f.post ∧ openTicketWith (fun t => Config.maxLines ≤ t.lines.length) s then some (.full, .none)
  else none

/-- WEIGH is taken (R54). -/
def takeWeigh (who : Admitted) (f : WeighFields) (s : State) : State :=
  match weighRefusal f s with
  | some (result, reason) => refuse who result reason s
  | none => startOp (.weigh who f (effectiveWait s.store.settings f.wait) .notReady) s

/-- A SCALE request is taken (R44). -/
def takeScale (who : Admitted) (q : Option Request) (s : State) : State :=
  match wellFormedRequest q with
  | some .zero => takeZero who s
  | some .tare => takeTare who s
  | some (.presetTare f) => takePreset who f s
  | some .clearTare => takeClearTare who s
  | some (.weigh f) => takeWeigh who f s
  | some .readScale => takeReadScale who s
  | _ => malformed who s

/-- An admitted SCALE request is taken at once, or waits (R44). -/
def scaleRequest (q : Option Request) (who : Admitted) (s : State) : State :=
  if s.scale.op.isNone && s.scale.waiting.isEmpty then takeScale who q s
  else s.setScale { s.scale with waiting := s.scale.waiting ++ [⟨who, q⟩] }

/-- Waiting requests are taken, oldest first, until one becomes an operation in flight or none is left (R44). Each marks what
it changes, so that a tare set and cleared again within one command still owes SCALE_STATE (R14, R41, R45). -/
def takeWaiting : List ScaleRequest → State → State
  | [], s => s.setScale { s.scale with waiting := [] }
  | q :: rest, s =>
    if s.scale.op.isSome then s.setScale { s.scale with waiting := q :: rest }
    else takeWaiting rest (noting (takeScale q.who q.request) s)

/-- The oldest waiting requests are taken when the operation in flight has ended (R44). -/
def drainScale (s : State) : State := takeWaiting s.scale.waiting s

/-! ## Sample arrivals (R19) -/

/-- Steps 6 to 8 of a sample arrival, for a filtered count in NO_ZERO or READY (R19). The decision marks what it changes, so
that a tare cleared by the rearm and taken anew at the same weight still owes SCALE_STATE (R14, R45). -/
def filteredWeight (c : Int) (ovr : Bool) (s : State) : State :=
  let m := s.store.metro
  let w := convert m.points c
  match s.scale.state with
  | .ready =>
    let held := holdReading m s.store.settings.tareAutoClear w ovr s.scale
    noting judgeOp (s.setScale (trackingStep m w (joinWeight m w held)))
  | _ => noting judgeOp (powerUpZeroTest w ovr (s.setScale (joinWeight m w s.scale)))

/-- A filtered count is produced (R19 steps 4 to 8). -/
def filteredArrival (c : Int) (ovr : Bool) (s : State) : State :=
  let s1 := s.setScale { s.scale with latest := some c }
  match s.scale.state with
  | .settling => filteredWeight c ovr (enterScale (if s.scale.zero.isSome then .ready else .noZero) s1)
  | .noZero => filteredWeight c ovr s1
  | .ready => filteredWeight c ovr s1
  | _ => s1

/-- The sample timer starts again (R20). -/
def restartSampleTimer (s : State) : State :=
  s.setScale { s.scale with sampleTimer := some s.store.metro.sampleTimeout }

/-- The count of an arrival joins the window, and what it produces is processed (R19 steps 3 to 8). -/
def joinCount (count : Int) (ovr : Bool) (s : State) : State :=
  let c := joinWindow count s.scale
  let s1 := s.setScale c
  match filteredCount s.store.metro.filterLength c.joined c.window with
  | none => s1
  | some x => filteredArrival x ovr s1

/-- A sample arrival in FAULT (R21). -/
def arrivalInFault (count : Int) (ref : Bool) (s : State) : State :=
  if ref then s
  else enterScale (restState s) (s.setScale (joinWindow count (clearFilter s.scale)))

/-- A sample arrival (R19). -/
def sampleArrives (count : Int) (ovr ref : Bool) (s : State) : State :=
  match s.scale.state with
  | .off => s
  | .fault => arrivalInFault count ref (restartSampleTimer s)
  | _ => if ref then enterFault (restartSampleTimer s) else joinCount count ovr (restartSampleTimer s)

/-- The sample timer expires (R20). -/
def sampleTimeout (s : State) : State :=
  match s.scale.sampleTimer with
  | none => s
  | some _ =>
    let s1 := s.setScale { s.scale with sampleTimer := none }
    match s.scale.state with
    | .off => s1
    | .fault => s1
    | _ => enterFault s1

/-- The motion wait timer expires (R38, R47). -/
def motionTimeout (s : State) : State :=
  match s.scale.op with
  | some (.zero _ _) => stopOp .timeout .moving s
  | some (.tare _ _) => stopOp .timeout .moving s
  | _ => s

/-- The capture wait timer expires: TIMEOUT with the blocking reason held (R56). -/
def captureTimeout (s : State) : State :=
  match s.scale.op with
  | some (.weigh _ _ _ blocking) => stopOp .timeout blocking s
  | _ => s

/-- CAL mode begins: a capture in flight ends (R56). -/
def calModeBegins (s : State) : State :=
  match s.scale.op with
  | some (.weigh _ _ _ _) => stopOp .rejected .calMode s
  | _ => s

/-- The Scale Unit's part in LANE RESET: every work ends without effect and the tare becomes absent (R43, R44, R61). -/
def resetScale (s : State) : State := s.setScale { s.scale with op := none, waiting := [], tare := none }

/-! ## Calibration points (R26, R27, R29) -/

/-- Counts and weights strictly increase along the table (R25). -/
def increasing : List CalPoint → Bool
  | a :: b :: rest => a.count < b.count && a.weight < b.weight && increasing (b :: rest)
  | _ => true

/-- The LOCKED and BUSY checks of a calibration edit (R26 steps 2 and 3). -/
def metroLocked (s : State) : Option Result :=
  if !calMode s then some .locked
  else if s.store.savingMetro.isSome then some .busy
  else none

/-- The RAM calibration table is replaced. -/
def setPoints (points : List CalPoint) (s : State) : State :=
  s.setStore { s.store with metro := { s.store.metro with points := points } }

/-- CAL POINT SET is taken (R26). -/
def takeCalPointSet (f : CalPointFields) (who : Admitted) (s : State) : State :=
  let points := s.store.metro.points
  match metroLocked s with
  | some result => respond who result .none [] s
  | none =>
    let placed := if f.index < points.length then points.set f.index f.point else points ++ [f.point]
    if points.length < f.index then respond who .badField .none [] s
    else if !increasing placed then respond who .badField .none [] s
    else respond who .ok .none (u8 placed.length) (calibrationEdited (setPoints placed s))

/-- CAL POINT DELETE is taken (R27). -/
def takeCalPointDelete (index : Nat) (who : Admitted) (s : State) : State :=
  let points := s.store.metro.points
  match metroLocked s with
  | some result => respond who result .none [] s
  | none =>
    if points.length ≤ index then respond who .notFound .none [] s
    else
      let kept := points.eraseIdx index
      respond who .ok .none (u8 kept.length) (calibrationEdited (setPoints kept s))

/-- CAL POINT READ is taken (R29). -/
def takeCalPointRead (index : Nat) (who : Admitted) (s : State) : State :=
  let points := s.store.metro.points
  match points[index]? with
  | some p => respond who .ok .none (u8 points.length ++ i32 p.count ++ i32 p.weight) s
  | none => respond who .notFound .none (u8 points.length) s

end Sys2Proof.Machine
end

