-- ==== Sys2Proof/Machine/StoreOps.lean ====
section
/-! DEFINITION. The Settings Store (chapter 12): items, tables, saves, loads, reverts and reloads, and what each change does
to the units. -/

namespace Sys2Proof.Machine

/-! ## Items (Table 12-1) -/

/-- The lamp sources in the order of R158. -/
def lampSources : List LampSource :=
  [.off, .on, .callSteady, .callFlash, .drawerOpen, .ticketActive, .scaleNotReady, .paper, .laneReady]

/-- Position of a lamp source. -/
def lampSourceCode : LampSource → Nat
  | .off => 0 | .on => 1 | .callSteady => 2 | .callFlash => 3 | .drawerOpen => 4 | .ticketActive => 5
  | .scaleNotReady => 6 | .paper => 7 | .laneReady => 8

/-- The lamp source a position names. -/
def lampSourceOf (n : Nat) : LampSource := (lampSources[n]?).getD .off

/-- An off/on item as a value. -/
def onOff (b : Bool) : Nat := if b then 1 else 0

/-- The RAM value of a SETTINGS item (Table 12-1). -/
def settingsItem (g : Settings) : Nat → Option Nat
  | 1 => some g.laneOverride
  | 2 => some g.rateOverride
  | 3 => some g.gapLimit
  | 4 => some g.errorThreshold
  | 5 => some g.readerRate
  | 6 => some g.readerLimit
  | 7 => some g.slotLifetime
  | 8 => some g.grantWindow
  | 9 => some (onOff g.cardSignOn)
  | 10 => some (onOff g.totalCheck)
  | 11 => some (onOff g.closedDrawer)
  | 12 => some g.roundingStep
  | 13 => some g.currencyDecimals
  | 14 => some g.pulseWidth
  | 15 => some g.confirmWindow
  | 16 => some g.retries
  | 17 => some g.debounce
  | 18 => some g.leftOpenLimit
  | 19 => some (lampSourceCode g.lampA)
  | 20 => some (lampSourceCode g.lampB)
  | 21 => some (onOff g.scaleEnable)
  | 22 => some (onOff g.cardEnable)
  | 23 => some (onOff g.drawerEnable)
  | 24 => some (onOff g.printerEnable)
  | 25 => some g.printWidth
  | 26 => some g.busyLimit
  | 27 => some g.captureWait
  | 28 => some g.motionWait
  | 29 => some (onOff g.tareAutoClear)
  | 30 => some (onOff g.settingsLock)
  | _ => none

/-- The RAM value of a METRO item (Table 12-1). -/
def metroItem (m : Metro) : Nat → Option Nat
  | 40 => some m.max1
  | 41 => some m.max2
  | 42 => some m.d1
  | 43 => some m.d2
  | 44 => some m.filterLength
  | 45 => some m.motionWindow
  | 46 => some m.motionBand
  | 47 => some m.powerUpZero
  | 48 => some m.zeroSetting
  | 49 => some (onOff m.zeroTracking)
  | 50 => some m.sampleTimeout
  | _ => none

/-- The RAM value of an item, or `none` for a number absent from Table 12-1. -/
def itemValue (s : State) (n : Nat) : Option Nat :=
  match settingsItem s.store.settings n with
  | some v => some v
  | none => metroItem s.store.metro n

/-- The area of an item (Table 12-1). -/
def itemArea (n : Nat) : Area := if n < 40 then .settings else .metro

/-- The divisions d1 and d2 may take (R30). -/
def divisions : List Nat := [1, 2, 5, 10, 20, 50]

/-- A value lies in an item's range (Table 12-1). -/
def itemInRange (n v : Nat) : Bool :=
  match n with
  | 1 => within 0 250 v
  | 2 => [0, 115200, 230400, 460800, 921600].contains v
  | 3 => within 1 100 v
  | 4 => within 1 65535 v
  | 5 => [9600, 19200, 38400, 57600, 115200].contains v
  | 6 => within 5 500 v
  | 7 => within 30 600 v
  | 8 => within 5 120 v
  | 12 => [1, 5, 10].contains v
  | 13 => within 0 3 v
  | 14 => within 20 250 v
  | 15 => within 100 2000 v
  | 16 => within 0 3 v
  | 17 => within 5 100 v
  | 18 => within 10 600 v
  | 19 => within 0 8 v
  | 20 => within 0 8 v
  | 25 => [32, 42, 48].contains v
  | 26 => within 500 30000 v
  | 27 => within 1000 10000 v
  | 28 => within 500 10000 v
  | 9 | 10 | 11 | 21 | 22 | 23 | 24 | 29 | 30 | 49 => within 0 1 v
  | 40 => within 500 60000 v
  | 41 => within 1000 60000 v
  | 42 => divisions.contains v
  | 43 => divisions.contains v
  | 44 => [4, 8, 16, 32].contains v
  | 45 => within 2 16 v
  | 46 => within 0 10 v
  | 47 => within 0 20 v
  | 48 => within 0 4 v
  | 50 => within 20 1000 v
  | _ => false

/-- The SETTINGS area with an item written. -/
def putSettings (n v : Nat) (g : Settings) : Settings :=
  match n with
  | 1 => { g with laneOverride := v }
  | 2 => { g with rateOverride := v }
  | 3 => { g with gapLimit := v }
  | 4 => { g with errorThreshold := v }
  | 5 => { g with readerRate := v }
  | 6 => { g with readerLimit := v }
  | 7 => { g with slotLifetime := v }
  | 8 => { g with grantWindow := v }
  | 9 => { g with cardSignOn := v == 1 }
  | 10 => { g with totalCheck := v == 1 }
  | 11 => { g with closedDrawer := v == 1 }
  | 12 => { g with roundingStep := v }
  | 13 => { g with currencyDecimals := v }
  | 14 => { g with pulseWidth := v }
  | 15 => { g with confirmWindow := v }
  | 16 => { g with retries := v }
  | 17 => { g with debounce := v }
  | 18 => { g with leftOpenLimit := v }
  | 19 => { g with lampA := lampSourceOf v }
  | 20 => { g with lampB := lampSourceOf v }
  | 21 => { g with scaleEnable := v == 1 }
  | 22 => { g with cardEnable := v == 1 }
  | 23 => { g with drawerEnable := v == 1 }
  | 24 => { g with printerEnable := v == 1 }
  | 25 => { g with printWidth := v }
  | 26 => { g with busyLimit := v }
  | 27 => { g with captureWait := v }
  | 28 => { g with motionWait := v }
  | 29 => { g with tareAutoClear := v == 1 }
  | 30 => { g with settingsLock := v == 1 }
  | _ => g

/-- The METRO area with an item written. -/
def putMetro (n v : Nat) (m : Metro) : Metro :=
  match n with
  | 40 => { m with max1 := v }
  | 41 => { m with max2 := v }
  | 42 => { m with d1 := v }
  | 43 => { m with d2 := v }
  | 44 => { m with filterLength := v }
  | 45 => { m with motionWindow := v }
  | 46 => { m with motionBand := v }
  | 47 => { m with powerUpZero := v }
  | 48 => { m with zeroSetting := v }
  | 49 => { m with zeroTracking := v == 1 }
  | 50 => { m with sampleTimeout := v }
  | _ => m

/-! ## What the units do at a change of the SETTINGS area -/

/-- The rate that the override and the straps give (R1, Table 1-1). -/
def givenRate (g : Settings) (straps : Straps) : Nat :=
  if g.rateOverride ≠ 0 then g.rateOverride
  else match straps.lr with
    | 0 => 115200
    | 1 => 230400
    | 2 => 460800
    | _ => 921600

/-- The lane ID that the override and the straps give (R3). -/
def givenLane (g : Settings) (straps : Straps) : Nat :=
  if g.laneOverride ≠ 0 then g.laneOverride else straps.lid + 1

/-- `some b` where it differs from `a`. -/
def ifChanged (a b : Nat) : Option Nat := if a = b then none else some b

/-- What the link puts in force at the end of the response to a change of the SETTINGS area (R1, R3). -/
def linkChange (old : Settings) (s : State) : Option LinkChange :=
  let g := s.store.settings
  if old.rateOverride = g.rateOverride ∧ old.laneOverride = g.laneOverride then none
  else some
    { rate := ifChanged (givenRate old s.straps) (givenRate g s.straps)
      rateOverride := g.rateOverride != 0
      lane := ifChanged (givenLane old s.straps) (givenLane g s.straps)
      laneOverride := g.laneOverride != 0 }

/-- The flash cycle begins for a lamp whose source becomes CALL_FLASH while the call is active (R158). -/
def beginFlash (old new : LampSource) (active phase : Bool) : Bool :=
  if old ≠ new ∧ new = .callFlash ∧ active then true else phase

/-- The lamp sources after a change (R158). -/
def lampEffects (old : Settings) (s : State) : State :=
  let g := s.store.settings
  s.setLamps { s.lamps with
    phaseA := beginFlash old.lampA g.lampA (callActive s) s.lamps.phaseA
    phaseB := beginFlash old.lampB g.lampB (callActive s) s.lamps.phaseB }

/-- An enable item after a change: `off` where it went from on to off, `on` where it went from off to on. -/
def enableEffect (old new : Bool) (off on : State → State) (s : State) : State :=
  match old, new with
  | true, false => off s
  | false, true => on s
  | _, _ => s

/-- What every changed SETTINGS item does through its owning rule (R194, R198): the reader rate, the four port enables and
the lamp sources act at once, the link with its response, and the others at their next use. -/
def settingsEffects (old : Settings) (s : State) : State :=
  let g := s.store.settings
  let s1 := if old.readerRate = g.readerRate then s else changeReaderRate s
  let s2 := enableEffect old.scaleEnable g.scaleEnable disableScale enableScale s1
  let s3 := enableEffect old.cardEnable g.cardEnable disableCard enableCard s2
  let s4 := enableEffect old.drawerEnable g.drawerEnable disableDrawer enableDrawer s3
  let s5 := enableEffect old.printerEnable g.printerEnable disablePrinter enablePrinter s4
  drainScale (lampEffects old s5)

/-- Replaces the RAM SETTINGS area. -/
def setSettings (g : Settings) (s : State) : State := s.setStore { s.store with settings := g }

/-- Replaces the RAM METRO area. -/
def setMetro (m : Metro) (s : State) : State := s.setStore { s.store with metro := m }

/-- What a changed METRO item does on the running scale, usability apart (R32). -/
def metroItemEffect (n : Nat) (s : State) : State :=
  match n with
  | 44 => clearAndSettle s
  | 45 => s.setScale (emptyWeights s.scale)
  | 49 => s.setScale { s.scale with tracking := 0 }
  | _ => s

/-! ## GET ITEM and SET ITEM (R194) -/

/-- GET ITEM is taken (R194). -/
def takeGetItem (n : Nat) (who : Admitted) (s : State) : State :=
  match itemValue s n with
  | none => respond who .badField .none [] s
  | some v => respond who .ok .none (u32 v) s

/-- A save of an area is in flight. -/
def saving (s : State) : Area → Bool
  | .metro => s.store.savingMetro.isSome
  | .settings => s.store.savingSettings.isSome

/-- The settings lock item written with a value. -/
def writesLock (f : ItemFields) (v : Nat) : Bool := f.item == 30 && f.value == v

/-- Why a SET ITEM is refused (R194 steps 1 to 6). -/
def setItemRefusal (f : ItemFields) (s : State) : Option (Result × Reason) :=
  if !itemInRange f.item f.value then some (.badField, .none)
  else if itemArea f.item = .metro ∧ !calMode s then some (.locked, .none)
  else if writesLock f 0 ∧ !calMode s then some (.locked, .none)
  else if itemArea f.item = .settings ∧ f.item ≠ 30 ∧ s.store.settings.settingsLock then some (.locked, .none)
  else if saving s (itemArea f.item) ∧ !writesLock f 1 then some (.busy, .none)
  else if f.item = 1 ∧ !idle s then some (.rejected, .ticketState)
  else none

/-- A METRO item takes a new value: R31 first, then R32, and the changed mark is set (R193). -/
def changeMetroItem (f : ItemFields) (s : State) : State :=
  let s1 := setMetro (putMetro f.item f.value s.store.metro) s
  let s2 := s1.setStore { s1.store with metroChanged := true }
  drainScale (judgeUsable (metroItemEffect f.item (judgeUsable s2)))

/-- SET ITEM is taken (R194); a write of the value already held changes nothing. -/
def takeSetItem (f : ItemFields) (who : Admitted) (s : State) : State :=
  match setItemRefusal f s with
  | some (result, reason) => respond who result reason [] s
  | none =>
    if itemValue s f.item = some f.value then respond who .ok .none (u32 f.value) s
    else match itemArea f.item with
      | .metro => respond who .ok .none (u32 f.value) (changeMetroItem f s)
      | .settings =>
        let old := s.store.settings
        let s1 := setSettings (putSettings f.item f.value old) s
        respondWith who .ok .none (u32 f.value) (linkChange old s1) (settingsEffects old s1)

/-! ## Table edits of the SETTINGS area (R50, R78, R79, R176) -/

/-- The LOCKED and BUSY checks of a table edit. -/
def tableLocked (s : State) : Option Result :=
  if s.store.settings.settingsLock then some .locked
  else if s.store.savingSettings.isSome then some .busy
  else none

/-- A table edit after its checks. -/
def editTable (who : Admitted) (edit : State → State) (s : State) : State :=
  match tableLocked s with
  | some result => respond who result .none [] s
  | none => edit s

/-- TARE SET is taken (R50). -/
def takeTareSet (f : TareFields) (who : Admitted) (s : State) : State :=
  editTable who
    (fun s =>
      let g := s.store.settings
      respond who .ok .none [] (setSettings { g with tares := g.tares.set (f.code - 1) f.value } s)) s

/-- TARE READ is taken (R51). -/
def takeTareRead (code : Nat) (who : Admitted) (s : State) : State :=
  respond who .ok .none (optional u32 (tareEntry s.store.settings code)) s

/-- Two entries share a number (R78 step 4). -/
def overlaps (a b : RangeEntry) : Bool := a.low ≤ b.high && b.low ≤ a.high

/-- The index a new entry takes: before the first entry with a greater low bound (R78). -/
def insertIndex (rs : List RangeEntry) (e : RangeEntry) : Nat := (rs.takeWhile fun x => x.low ≤ e.low).length

/-- RANGE INSERT after its LOCKED and BUSY checks (R78 steps 4 to 6). -/
def insertRange (e : RangeEntry) (who : Admitted) (s : State) : State :=
  let g := s.store.settings
  if g.ranges.any (overlaps e) then respond who .rejected .overlap [] s
  else if Config.rangeEntries ≤ g.ranges.length then respond who .full .none [] s
  else
    let i := insertIndex g.ranges e
    let rs := g.ranges.take i ++ e :: g.ranges.drop i
    respond who .ok .none (u8 i ++ u8 rs.length) (setSettings { g with ranges := rs } s)

/-- RANGE INSERT is taken (R78). -/
def takeRangeInsert (e : RangeEntry) (who : Admitted) (s : State) : State := editTable who (insertRange e who) s

/-- RANGE DELETE after its LOCKED and BUSY checks (R79). -/
def deleteRange (low : Nat) (who : Admitted) (s : State) : State :=
  let g := s.store.settings
  if g.ranges.any fun e => e.low == low then
    let rs := g.ranges.filter fun e => e.low != low
    respond who .ok .none (u8 rs.length) (setSettings { g with ranges := rs } s)
  else respond who .notFound .none [] s

/-- RANGE DELETE is taken (R79). -/
def takeRangeDelete (low : Nat) (who : Admitted) (s : State) : State := editTable who (deleteRange low who) s

/-- RANGE READ is taken (R79). -/
def takeRangeRead (index : Nat) (who : Admitted) (s : State) : State :=
  let rs := s.store.settings.ranges
  match rs[index]? with
  | some e => respond who .ok .none (u8 rs.length ++ writeRangeEntry e) s
  | none => respond who .notFound .none (u8 rs.length) s

/-- RANGE CLEAR is taken (R79). -/
def takeRangeClear (who : Admitted) (s : State) : State :=
  editTable who (fun s => respond who .ok .none [] (setSettings { s.store.settings with ranges := [] } s)) s

/-- The blocks of the whole fragment store (R176). -/
def fragmentStoreBlocks (g : Settings) : Nat := (g.fragments.map listBlocks).sum

/-- The SETTINGS area with a fragment's content replaced. -/
def putFragment (n : Nat) (gs : List Segment) (g : Settings) : Settings :=
  { g with fragments := g.fragments.set (n - 1) gs }

/-- FRAGMENT WRITE after its LOCKED and BUSY checks (R176). -/
def writeFragment (f : FragmentFields) (who : Admitted) (s : State) : State :=
  let g := putFragment f.number f.segments s.store.settings
  if Config.fragmentBlocks < listBlocks f.segments ∨ Config.fragmentStoreBlocks < fragmentStoreBlocks g then
    respond who .full .none [] s
  else
    respond who .ok .none (u8 (listBlocks f.segments) ++ u8 (Config.fragmentStoreBlocks - fragmentStoreBlocks g))
      (setSettings g s)

/-- FRAGMENT WRITE is taken (R176). -/
def takeFragmentWrite (f : FragmentFields) (who : Admitted) (s : State) : State :=
  editTable who (writeFragment f who) s

/-- FRAGMENT CLEAR after its LOCKED and BUSY checks (R176). -/
def clearFragment (n : Nat) (who : Admitted) (s : State) : State :=
  let g := putFragment n [] s.store.settings
  respond who .ok .none (u8 (Config.fragmentStoreBlocks - fragmentStoreBlocks g)) (setSettings g s)

/-- FRAGMENT CLEAR is taken (R176). -/
def takeFragmentClear (n : Nat) (who : Admitted) (s : State) : State := editTable who (clearFragment n who) s

/-- The whole segments from the front of a list that fit in `room` bytes (R177). -/
def fitting : Nat → List Segment → List Segment
  | _, [] => []
  | room, g :: rest => if storedLength g ≤ room then g :: fitting (room - storedLength g) rest else []

/-- FRAGMENT READ is taken (R177). -/
def takeFragmentRead (f : FragmentReadFields) (who : Admitted) (s : State) : State :=
  let content := fragmentContent s.store.settings f.number
  respond who .ok .none
    (u8 content.length ++ u8 (listBlocks content)
      ++ listOf writeSegment (fitting Config.fragmentReadBytes (content.drop f.first))) s

/-! ## Stored areas and their checks (R193) -/

/-- A calibration point in its stored order. -/
def pointBytes (p : CalPoint) : List Byte := i32 p.count ++ i32 p.weight

/-- The METRO area in its stored order: the items in the order of Table 12-1, then the points. -/
def metroBytes (m : Metro) : List Byte :=
  ([40, 41, 42, 43, 44, 45, 46, 47, 48, 49, 50].map fun n => u32 ((metroItem m n).getD 0)).flatten
    ++ listOf pointBytes m.points

/-- The numbers of the SETTINGS items. -/
def settingsNumbers : List Nat := (List.range 30).map (· + 1)

/-- The SETTINGS area in its stored order: the items in the order of Table 12-1, then the tare table, the card range table
and the fragments. -/
def settingsBytes (g : Settings) : List Byte :=
  (settingsNumbers.map fun n => u32 ((settingsItem g n).getD 0)).flatten ++ listOf (optional u32) g.tares
    ++ listOf writeRangeEntry g.ranges ++ listOf (listOf writeSegment) g.fragments

/-- A stored copy with a passing check. -/
def sealGood {α : Type} (bytes : α → List Byte) (x : α) : Stored α := ⟨x, areaCheck (bytes x)⟩

/-- A stored copy whose check fails. -/
def sealBad {α : Type} (bytes : α → List Byte) (x : α) : Stored α := ⟨x, ~~~ areaCheck (bytes x)⟩

/-- The check recomputed from the contents equals the stored check (R193). -/
def passes {α : Type} (bytes : α → List Byte) (x : Stored α) : Bool := areaCheck (bytes x.contents) == x.check

/-- The stored METRO area is valid (R193). -/
def metroGood (t : Store) : Bool := passes metroBytes t.storedMetro

/-- The stored SETTINGS area is valid (R193). -/
def settingsGood (t : Store) : Bool := passes settingsBytes t.storedSettings

/-- The counter cell is valid (R193, R200). -/
def counterGood (t : Store) : Bool := passes u32 t.counterCell

/-- RAM METRO loaded: the stored copy if its check passes, otherwise the defaults; the changed mark is cleared
(R193, R195, R198). -/
def loadMetro (t : Store) : Store :=
  { t with
    metro := if metroGood t then t.storedMetro.contents else Metro.default
    metroValid := metroGood t
    metroChanged := false }

/-- RAM SETTINGS loaded (R198). -/
def loadSettings (t : Store) : Store :=
  { t with
    settings := if settingsGood t then t.storedSettings.contents else Settings.default
    settingsValid := settingsGood t }

/-! ## The CAL switch (R195) -/

/-- RAM METRO is reverted (R195). -/
def revertMetro (s : State) : State := metroReplaced (s.setStore (loadMetro s.store))

/-- The revert decision: with the changed mark set, RAM METRO is reverted (R195). -/
def decideRevert (s : State) : State := if s.store.metroChanged then revertMetro s else s

/-- The CAL switch opens: with a METRO save in flight the decision is put off (R195). -/
def calOpens (s : State) : State :=
  if s.store.savingMetro.isSome then s.setStore { s.store with putOff := true } else decideRevert s

/-- The CAL switch closes: a put-off decision is dropped, and CAL mode begins (R195, R56). -/
def calCloses (s : State) : State := calModeBegins (s.setStore { s.store with putOff := false })

/-- The CAL switch has changed (R195). -/
def calSwitchChanged (closed : Bool) (s : State) : State := drainScale (if closed then calCloses s else calOpens s)

/-! ## Saves (R196, R197) -/

/-- SAVE of METRO is taken (R196). -/
def saveMetro (who : Admitted) (s : State) : State :=
  if !calMode s then respond who .locked .none [] s
  else if s.store.savingMetro.isSome then respond who .busy .none [] s
  else if !consistent s.store.metro then respond who .badField .metroInconsistent [] s
  else if Config.max32 ≤ s.store.counter then respond who .limit .none [] s
  else
    let n := s.store.counter + 1
    s.setStore { s.store with
      counter := n
      counterCell := sealGood u32 n
      savingMetro := some ⟨who, s.store.metro, n⟩ }

/-- SAVE of SETTINGS is taken (R196). -/
def saveSettings (who : Admitted) (s : State) : State :=
  if s.store.savingSettings.isSome then respond who .busy .none [] s
  else s.setStore { s.store with savingSettings := some ⟨who, s.store.settings, 0⟩ }

/-- SAVE is taken (R196); an accepted SAVE is answered when its write ends. -/
def takeSave (a : Area) (who : Admitted) (s : State) : State :=
  match a with
  | .metro => saveMetro who s
  | .settings => saveSettings who s

/-- The result of a save's response (R197). -/
def saveAnswer (verified : Bool) : Result := if verified then .ok else .fault

/-- A put-off revert decision is made when the save has ended (R195). -/
def putOffDecision (s : State) : State :=
  if s.store.putOff then decideRevert (s.setStore { s.store with putOff := false }) else s

/-- The write of a METRO save ends (R197, R195). -/
def metroSaved (x : Saving Metro) (verified : Bool) (s : State) : State :=
  let t := s.store
  let s1 := s.setStore { t with
    savingMetro := none
    storedMetro := if verified then sealGood metroBytes x.image else sealBad metroBytes x.image
    metroValid := verified
    metroChanged := t.metroChanged && !verified }
  let s2 := respond x.who (saveAnswer verified) .none (if verified then u32 x.count else []) s1
  drainScale (putOffDecision (judgeUsable (journal (.metroSaved x.count verified) s2)))

/-- The write of a SETTINGS save ends (R197). -/
def settingsSaved (x : Saving Settings) (verified : Bool) (s : State) : State :=
  let s1 := s.setStore { s.store with
    savingSettings := none
    storedSettings := if verified then sealGood settingsBytes x.image else sealBad settingsBytes x.image
    settingsValid := verified }
  journal (.settingsSaved verified) (respond x.who (saveAnswer verified) .none [] s1)

/-- The write of the area's save ends (R197); with no save of the area in flight nothing happens. -/
def saveWriteEnds (a : Area) (verified : Bool) (s : State) : State :=
  match a with
  | .metro => match s.store.savingMetro with
    | some x => metroSaved x verified s
    | none => s
  | .settings => match s.store.savingSettings with
    | some x => settingsSaved x verified s
    | none => s

/-- The saves in flight are abandoned at RESET or loss of supply: their areas' checks fail at the next load (R197,
R200). -/
def abandonSaves (t : Store) : Store :=
  { t with
    savingMetro := none
    savingSettings := none
    storedMetro := match t.savingMetro with
      | some x => sealBad metroBytes x.image
      | none => t.storedMetro
    storedSettings := match t.savingSettings with
      | some x => sealBad settingsBytes x.image
      | none => t.storedSettings }

/-! ## RELOAD (R198) -/

/-- Why a RELOAD is refused (R198 steps 2 to 5). -/
def reloadRefusal (a : Area) (s : State) : Option (Result × Reason) :=
  if !idle s then some (.rejected, .ticketState)
  else if (printingJob s.print).isSome then some (.rejected, .jobPrinting)
  else if saving s a then some (.busy, .none)
  else if a = .settings ∧ s.store.settings.settingsLock ∧ !calMode s then some (.locked, .none)
  else none

/-- The end of a RELOAD: last reset kind, START, and STARTUP owed (R198). -/
def reloaded (a : Area) (s : State) : State :=
  let s1 := s.setStore { s.store with lastReset := .reload }
  markOwed .startup
    (journal (.start .reload s1.store.metroValid s1.store.settingsValid (some a)) s1)

/-- RELOAD of METRO (R198). -/
def reloadMetro (who : Admitted) (s : State) : State :=
  let s1 := drainScale (metroReplaced (s.setStore (loadMetro s.store)))
  respond who .ok .none (flag s1.store.metroValid) (reloaded .metro s1)

/-- RELOAD of SETTINGS (R198). -/
def reloadSettings (who : Admitted) (s : State) : State :=
  let old := s.store.settings
  let s1 := s.setStore (loadSettings s.store)
  respondWith who .ok .none (flag s1.store.settingsValid) (linkChange old s1)
    (reloaded .settings (settingsEffects old s1))

/-- RELOAD is taken (R198). -/
def takeReload (a : Area) (who : Admitted) (s : State) : State :=
  match reloadRefusal a s with
  | some (result, reason) => respond who result reason [] s
  | none => match a with
    | .metro => reloadMetro who s
    | .settings => reloadSettings who s

end Sys2Proof.Machine
end

