-- ==== Sys2Proof/Machine/TicketRequests.lean ====
section
/-! DEFINITION. The requests of the Ticket Unit (chapters 6 and 7): opening, lines, the total check, abandoning, tenders,
settlement, WAIVE RECEIPT and FORCE CLOSE. -/

namespace Sys2Proof.Machine

/-! ## Opening (R98, R99, R100) -/

/-- A fresh ticket record (R99). -/
def freshTicket (number operator : Nat) : Ticket where
  phase := .opened
  number := number
  operator := operator
  loyalty := none
  lines := []
  tenders := []
  total := 0
  rounding := 0
  change := 0
  checkMatched := false
  authorizationRaised := false
  receiptWaived := false
  forced := false
  receiptLatch := false
  receiptMet := false
  jobsMet := false
  drawerMet := false

/-- The ticket number after `n` (R99). -/
def nextTicketNumber (n : Nat) : Nat := if n = Config.maxTicketNumber then 1 else n + 1

/-- OPEN TICKET is taken (R98, R99). -/
def takeOpenTicket (who : Admitted) (s : State) : State :=
  if !idle s then respond who .rejected .ticketState [] s
  else match s.staff.operator with
    | none => respond who .rejected .noOperator [] s
    | some o =>
      if s.drawer.auth.isSome then respond who .rejected .drawerBusy [] s
      else if s.store.settings.closedDrawer ∧ s.drawer.state ≠ .closed then
        respond who .rejected .drawerOpen [] s
      else
        let n := s.ticket.next
        respond who .ok .none (u32 n ++ u32 o.number)
          (s.setTicket ⟨some (freshTicket n o.number), nextTicketNumber n⟩)

/-- SET NEXT TICKET is taken (R100). -/
def takeSetNextTicket (number : Nat) (who : Admitted) (s : State) : State :=
  if !idle s then respond who .rejected .ticketState [] s
  else respond who .ok .none (u32 number) (s.setTicket { s.ticket with next := number })

/-! ## Lines (R104, R106, R107) -/

/-- An accepted append is answered with the new line number and the new total (R104, R106). -/
def answerAppend (who : Admitted) (t : Ticket) (s : State) : State :=
  respond who .ok .none (u8 t.lines.length ++ i64 t.total) (setCurrent t s)

/-- KEYED LINE is taken (R104). -/
def takeKeyedLine (f : KeyedFields) (who : Admitted) (s : State) : State :=
  match s.ticket.current with
  | none => respond who .rejected .ticketState [] s
  | some t =>
    match appendRefusal t f.amount with
    | some why => respond who (appendResult why).1 (appendResult why).2 [] s
    | none => answerAppend who (appendLine t f.item f.amount (.keyed f.quantity)) s

/-- The line with a number. -/
def lineNumbered (t : Ticket) (n : Nat) : Option Line := t.lines.find? fun l => l.number == n

/-- The ticket with the voided flag of a line set (R106). -/
def markVoided (t : Ticket) (n : Nat) : Ticket :=
  { t with lines := t.lines.map fun l => if l.number = n then { l with voided := true } else l }

/-- The ticket with a line cancelled by a VOID line (R106). -/
def voidTarget (t : Ticket) (l : Line) : Ticket := appendLine (markVoided t l.number) l.item (-l.amount) (.void l.number)

/-- VOID LINE with its target found (R106 steps 3 to 6). -/
def voidLineOf (who : Admitted) (t : Ticket) (l : Line) (s : State) : State :=
  if l.voided || isVoidLine l then respond who .rejected .notVoidable [] s
  else match appendRefusal t (-l.amount) with
    | some why => respond who (appendResult why).1 (appendResult why).2 [] s
    | none =>
      if isWeighed l then grantCheck .voidLine who (fun _ s => answerAppend who (voidTarget t l) s) s
      else answerAppend who (voidTarget t l) s

/-- VOID LINE is taken (R106). -/
def takeVoidLine (n : Nat) (who : Admitted) (s : State) : State :=
  match s.ticket.current with
  | none => respond who .rejected .ticketState [] s
  | some t =>
    if t.phase ≠ .opened then respond who .rejected .ticketState [] s
    else match lineNumbered t n with
      | none => respond who .notFound .none [] s
      | some l => voidLineOf who t l s

/-- Position of a line kind (R107). -/
def lineKindCode : LineBody → Nat
  | .weighed _ => 0
  | .keyed _ => 1
  | .void _ => 2

/-- The quantity of a line (R102). -/
def lineQuantity : LineBody → Option Nat
  | .keyed q => q
  | _ => none

/-- The weight part of a line (R102). -/
def linePart : LineBody → Option WeightPart
  | .weighed p => some p
  | _ => none

/-- The target line number of a line (R102). -/
def lineTarget : LineBody → Option Nat
  | .void n => some n
  | _ => none

/-- A weight part as READ LINE gives it (R107). -/
def writePart (p : WeightPart) : List Byte :=
  i32 p.net ++ i32 p.gross ++ u32 p.tare ++ u32 p.price ++ u8 (priceBaseCode p.base) ++ u16 p.record ++ u32 p.calCount

/-- A line as READ LINE gives it (R107). -/
def writeLine (l : Line) : List Byte :=
  u8 l.number ++ u8 (lineKindCode l.body) ++ u32 l.item ++ optional u16 (lineQuantity l.body) ++ i32 l.amount
    ++ flag l.voided ++ optional writePart (linePart l.body) ++ optional u8 (lineTarget l.body)

/-- READ LINE is taken (R107). -/
def takeReadLine (n : Nat) (who : Admitted) (s : State) : State :=
  match s.ticket.current with
  | none => respond who .rejected .ticketState [] s
  | some t =>
    match lineNumbered t n with
    | none => respond who .notFound .none [] s
    | some l => respond who .ok .none (writeLine l) s

/-- TOTAL CHECK is taken (R108). -/
def takeTotalCheck (total : Int) (who : Admitted) (s : State) : State :=
  match s.ticket.current with
  | none => respond who .rejected .ticketState [] s
  | some t =>
    if t.phase = .settled then respond who .rejected .ticketState [] s
    else
      let matched := decide (total = t.total)
      respond who .ok .none (i64 t.total ++ i64 (total - t.total) ++ flag matched)
        (setCurrent { t with checkMatched := matched } s)

/-! ## Abandoning (R111 to R114) -/

/-- The journal entry of an abandonment (R113, R114). -/
def journalAbandoned (t : Ticket) (cause : AbandonCause) (supervisor : Option Nat) (s : State) : State :=
  journalAs t.operator (.ticketAbandoned t.number t.total t.lines.length cause supervisor) s

/-- The effects of an accepted ABANDON (R113). -/
def abandonTicket (who : Admitted) (t : Ticket) (supervisor : Option Nat) (s : State) : State :=
  let s1 := journalAbandoned t .request supervisor (emptySlot (cancelBound t.number s))
  run (respond who .ok .none (u32 t.number) (discardTicket s1))

/-- A tender that keeps a ticket from being abandoned (R112). -/
def isCardTender (x : Tender) : Bool := x.kind == .card || x.kind == .gift

/-- ABANDON is taken (R111, R112). -/
def takeAbandon (who : Admitted) (s : State) : State :=
  match s.ticket.current with
  | none => respond who .rejected .ticketState [] s
  | some t =>
    let withGrant := grantCheck .abandon who (fun supervisor s => abandonTicket who t (some supervisor) s) s
    match t.phase with
    | .settled => respond who .rejected .ticketState [] s
    | .opened => if t.lines.any isWeighed then withGrant else abandonTicket who t none s
    | .tendering => if t.tenders.any isCardTender then respond who .rejected .cardTendered [] s else withGrant

/-! ## Tenders (R118 to R122) -/

/-- What a tender's amount does (R119 to R121). -/
inductive TenderTest where
  | settles (rounding change : Int)
  | pays
  | fails
deriving DecidableEq, Repr

/-- The amount due rounded to the cash rounding step (R119). -/
def roundedDue (due : Int) (step : Nat) : Int := toMultipleUp due step

/-- A CASH amount against the rounded due (R119). -/
def cashTest (step amount : Nat) (due : Int) : TenderTest :=
  let rounded := roundedDue due step
  if rounded ≤ amount then .settles (rounded - due) (amount - rounded)
  else if 1 ≤ amount ∧ amount < due then .pays
  else .fails

/-- A CARD, GIFT or OTHER amount against the amount due (R120, R121). -/
def exactTest (amount : Nat) (due : Int) : TenderTest :=
  if due < amount then .fails else if due = amount then .settles 0 0 else .pays

/-- The test of a tender's kind (R118 step 4). -/
def tenderTest (s : State) (kind : TenderKind) (amount : Nat) (due : Int) : TenderTest :=
  match kind with
  | .cash => cashTest s.store.settings.roundingStep amount due
  | _ => exactTest amount due

/-- The class the slot's card must have for a kind of tender (R120). -/
def tenderClass : TenderKind → Option CardClass
  | .card => some .payment
  | .gift => some .gift
  | _ => none

/-- The slot test of a kind of tender (R120): the refusal, or the held card's masked form. -/
def slotTest (s : State) (kind : TenderKind) : Except Reason (Option (List Byte)) :=
  match tenderClass kind, s.card.slot with
  | none, _ => .ok none
  | some _, .empty => .error .noCard
  | some _, .presented _ _ => .error .cardNotRead
  | some c, .read card _ => if card.cardClass = c then .ok (some card.masked) else .error .cardClass

/-- A job that has left HELD renders the field at its position, in PRINTING and in STALLED alike, and hands its text to the
port, where it waits while a stall reason is held (R173, R182). -/
def renderHeld (j : Job) (s : State) : State :=
  match segmentAt j with
  | some (.insert field n) => reachInsert j field n s
  | _ => putJob j s

/-- Settlement releases a printing job HELD on a final field of this ticket: at that moment it enters PRINTING, or STALLED if
it holds a stall reason, and renders the field (R125, R173). -/
def releaseHeld (number : Nat) (s : State) : State :=
  match printingJob s.print with
  | some j => if j.state = .held ∧ j.ticket = some number then renderHeld (toPrinting j) s else s
  | none => s

/-- The ticket at settlement (R123 step 1, R124, R123 step 4). -/
def settledTicket (t : Ticket) (rounding change : Int) : Ticket :=
  { t with
    phase := .settled
    rounding := rounding
    change := change
    authorizationRaised := decide (0 < cashSum t)
    receiptLatch := false }

/-- The ticket settles (R123). The Drawer Unit's report of an authorization is evaluated behind the evaluation of step 4
(R127). -/
def settleTicket (t : Ticket) (rounding change : Int) (s : State) : State :=
  let t1 := settledTicket t rounding change
  let s1 := setCurrent t1 s
  let s2 := if t1.authorizationRaised then authorizationArrives ⟨.cash, t.number⟩ s1 else s1
  evaluateClosing (evaluateClosing (releaseHeld t.number s2))

/-- The response to an accepted tender (R122). -/
def answerTender (who : Admitted) (number : Nat) (rounding change : Int) (s : State) : State :=
  let due := match s.ticket.current with
    | some t => amountDue t
    | none => 0
  respond who .ok .none
    (u8 number ++ u8 (ticketStateCode (ticketState s)) ++ i64 due ++ i64 rounding ++ u64 change.toNat) s

/-- A tender that its slot test accepts empties the slot for CARD and GIFT (R120). -/
def consumeSlot (kind : TenderKind) (s : State) : State :=
  match tenderClass kind with
  | some _ => emptySlot s
  | none => s

/-- An accepted tender (R122). -/
def acceptTender (who : Admitted) (t : Ticket) (x : Tender) (test : TenderTest) (s : State) : State :=
  let t1 := { t with phase := .tendering, tenders := t.tenders ++ [x] }
  let s1 := consumeSlot x.kind s
  match test with
  | .settles rounding change =>
    answerTender who t1.tenders.length rounding change (settleTicket t1 rounding change s1)
  | _ => answerTender who t1.tenders.length 0 0 (setCurrent t1 s1)

/-- The tender settles the ticket. -/
def settles : TenderTest → Bool
  | .settles _ _ => true
  | _ => false

/-- A tender is taken (R118). -/
def takeTender (kind : TenderKind) (amount : Nat) (reference : Option (List Byte)) (who : Admitted) (s : State) : State :=
  match s.ticket.current with
  | none => respond who .rejected .ticketState [] s
  | some t =>
    let test := tenderTest s kind amount (amountDue t)
    if t.phase = .settled then respond who .rejected .ticketState [] s
    else if s.store.settings.totalCheck ∧ !t.checkMatched then respond who .rejected .totalUnchecked [] s
    else if t.total < 0 then respond who .rejected .negativeTotal [] s
    else if test = .fails then respond who .badField .none [] s
    else if Config.tendersBeforeLast ≤ t.tenders.length ∧ !settles test then respond who .full .none [] s
    else match slotTest s kind with
      | .error reason => respond who .rejected reason [] s
      | .ok masked => run (acceptTender who t ⟨kind, amount, reference, masked⟩ test s)

/-- CASH is taken (R119). -/
def takeCash (amount : Nat) (who : Admitted) (s : State) : State := takeTender .cash amount none who s

/-- CARD is taken (R120). -/
def takeCard (f : TenderFields) (who : Admitted) (s : State) : State := takeTender .card f.amount (some f.reference) who s

/-- GIFT is taken (R120). -/
def takeGift (f : TenderFields) (who : Admitted) (s : State) : State := takeTender .gift f.amount (some f.reference) who s

/-- OTHER is taken (R121). -/
def takeOther (f : TenderFields) (who : Admitted) (s : State) : State :=
  takeTender .other f.amount (some f.reference) who s

/-! ## WAIVE RECEIPT and FORCE CLOSE (R129, R130) -/

/-- An accepted WAIVE RECEIPT: the flag, the evaluation, and whether the ticket closed (R129). -/
def waiveReceipt (who : Admitted) (t : Ticket) (s : State) : State :=
  let s1 := evaluateClosing (setCurrent { t with receiptWaived := true } s)
  run (respond who .ok .none (flag (idle s1)) s1)

/-- A WEIGHED line that is not voided (R129). -/
def isLiveWeighed (l : Line) : Bool := isWeighed l && !l.voided

/-- WAIVE RECEIPT is taken (R129). -/
def takeWaiveReceipt (who : Admitted) (s : State) : State :=
  match s.ticket.current with
  | none => respond who .rejected .ticketState [] s
  | some t =>
    if t.phase ≠ .settled then respond who .rejected .ticketState [] s
    else if receiptCondition t then respond who .rejected .ticketState [] s
    else if t.lines.any isLiveWeighed then grantCheck .waiveReceipt who (fun _ s => waiveReceipt who t s) s
    else waiveReceipt who t s

/-- An accepted FORCE CLOSE after its grant (R130 steps 2 to 5). -/
def forceClose (who : Admitted) (t : Ticket) (s : State) : State :=
  let s1 := cancelBound t.number s
  let s2 := if t.authorizationRaised ∧ holdsTicketAuth s1 t.number then dropAuthorization .forceClose s1 else s1
  run (respond who .ok .none (u32 t.number) (closeTicket { t with forced := true } s2))

/-- FORCE CLOSE is taken (R130). -/
def takeForceClose (who : Admitted) (s : State) : State :=
  match s.ticket.current with
  | none => respond who .rejected .ticketState [] s
  | some t =>
    if t.phase ≠ .settled then respond who .rejected .ticketState [] s
    else grantCheck .forceClose who (fun _ s => forceClose who t s) s

end Sys2Proof.Machine
end

