-- ==== Sys2Proof/Machine/LinkOps.lean ====
section
/-! DEFINITION. The Link Interface (chapter 1): which unit takes a request, the frame assembler, the end of an outbound
frame, READ LINK STATUS; then LANE RESET and start-up, which reach every unit (chapter 12). -/

namespace Sys2Proof.Machine

/-! ## READ LINK STATUS (R17) -/

/-- Clears a channel's overrun flag. -/
def clearOverrun (c : ChannelState) : ChannelState := { c with overrun := false }

/-- The counts and flags that READ LINK STATUS clears (R17). -/
def clearLink (l : Link) : Link :=
  { l with
    errorCount := 0
    degraded := false
    mgmt := clearOverrun l.mgmt
    scale := clearOverrun l.scale
    card := clearOverrun l.card
    pay := clearOverrun l.pay
    ticket := clearOverrun l.ticket
    print := clearOverrun l.print
    drawer := clearOverrun l.drawer }

/-- A source, STRAP or OVERRIDE (R17). -/
def sourceCode (override : Bool) : List Byte := u8 (if override then 1 else 0)

/-- The fields of READ LINK STATUS (R17). -/
def writeLinkStatus (s : State) : List Byte :=
  u16 s.link.errorCount ++ flag s.link.degraded ++ listOf flag (linkSnapshot s).overruns ++ u8 s.link.lane
    ++ sourceCode s.link.laneOverride ++ u32 s.link.rate ++ sourceCode s.link.rateOverride

/-- READ LINK STATUS is taken (R17). -/
def takeReadLinkStatus (clear : Bool) (who : Admitted) (s : State) : State :=
  respond who .ok .none (writeLinkStatus s) (if clear then s.setLink (clearLink s.link) else s)

/-! ## LANE RESET (R18, R199) -/

/-- The ABORTED response of an unanswered request (R18, R59). -/
def abortedResponse (r : Admitted) : Response :=
  ⟨r.id, r.kind, r.tag, responsePayload .aborted .none (plainFields r), none⟩

/-- A channel at LANE RESET: its queue is emptied and every unanswered request is answered ABORTED, in the order of
admission (R18). -/
def abortChannel (c : ChannelState) : ChannelState := { c with responses := c.unanswered.map abortedResponse }

/-- A frame cut off at LANE RESET; a cut notice is owed again (R18). -/
def cutFrame (l : Link) : Link :=
  match l.sending with
  | none => l
  | some f =>
    if f.channel = .mgmt then l
    else match f.origin with
      | .notice k => { l with sending := none, owed := setOwed l.owed k true }
      | .response _ _ => { l with sending := none }

/-- The Link Interface's part in LANE RESET (R18). -/
def resetLink (l : Link) : Link :=
  let l := cutFrame l
  { l with
    scale := abortChannel l.scale
    card := abortChannel l.card
    pay := abortChannel l.pay
    ticket := abortChannel l.ticket
    print := abortChannel l.print
    drawer := abortChannel l.drawer }

/-- The Ticket Unit's part in LANE RESET (R114). -/
def resetTicket (s : State) : State :=
  match s.ticket.current with
  | none => s
  | some t => discardTicket (journalAbandoned t .laneReset none s)

/-- The Print Unit's and the Printer Port's part in LANE RESET (R179, R192). -/
def resetPrint (s : State) : State := resetPort (s.print.jobs.foldl (fun s j => cancelQuietly j s) s)

/-- The Operator Unit's part in LANE RESET (R96). -/
def resetStaff (s : State) : State := clearReason .supervisorNeeded (s.setStaff { s.staff with grant := none })

/-- The end of LANE RESET: last reset kind, START, and STARTUP owed (R199). -/
def resetRecorded (s : State) : State :=
  let s1 := s.setStore { s.store with lastReset := .laneReset }
  markOwed .startup (journal (.start .laneReset s1.store.metroValid s1.store.settingsValid none) s1)

/-- LANE RESET is taken (R199). -/
def takeLaneReset (who : Admitted) (s : State) : State :=
  let s1 := resetStaff (emptySlot (dropAuthorization .laneReset (resetPrint (resetTicket s))))
  let s2 := resetScale s1
  run (respond who .ok .none [] (resetRecorded (s2.setLink (resetLink s2.link))))

/-! ## Which unit takes a request (Tables 1-2 and 1-3) -/

/-- A well-formed request is taken by its unit. -/
def takeWellFormed (r : Request) (who : Admitted) (s : State) : State :=
  match r with
  | .readLinkStatus clear => takeReadLinkStatus clear who s
  | .calPointSet f => drainScale (takeCalPointSet f who s)
  | .calPointDelete i => drainScale (takeCalPointDelete i who s)
  | .calPointRead i => takeCalPointRead i who s
  | .setClock t => takeSetClock t who s
  | .readJournal f => takeReadJournal f who s
  | .getItem n => takeGetItem n who s
  | .setItem f => takeSetItem f who s
  | .save a => takeSave a who s
  | .reload a => takeReload a who s
  | .laneReset => takeLaneReset who s
  | .tareSet f => takeTareSet f who s
  | .tareRead c => takeTareRead c who s
  | .rangeInsert e => takeRangeInsert e who s
  | .rangeDelete low => takeRangeDelete low who s
  | .rangeRead i => takeRangeRead i who s
  | .rangeClear => takeRangeClear who s
  | .fragmentWrite f => takeFragmentWrite f who s
  | .fragmentClear n => takeFragmentClear n who s
  | .fragmentRead f => takeFragmentRead f who s
  | .zero => scaleRequest (some .zero) who s
  | .tare => scaleRequest (some .tare) who s
  | .presetTare f => scaleRequest (some (.presetTare f)) who s
  | .clearTare => scaleRequest (some .clearTare) who s
  | .weigh f => scaleRequest (some (.weigh f)) who s
  | .readScale => scaleRequest (some .readScale) who s
  | .readCard => takeReadCard who s
  | .clearCard => takeClearCard who s
  | .openTicket => takeOpenTicket who s
  | .setNextTicket n => takeSetNextTicket n who s
  | .keyedLine f => takeKeyedLine f who s
  | .voidLine n => takeVoidLine n who s
  | .readLine n => takeReadLine n who s
  | .totalCheck z => takeTotalCheck z who s
  | .abandon => takeAbandon who s
  | .cash n => takeCash n who s
  | .card f => takeCard f who s
  | .gift f => takeGift f who s
  | .other f => takeOther f who s
  | .waiveReceipt => takeWaiveReceipt who s
  | .forceClose => takeForceClose who s
  | .signOn n => takeSignOn n who s
  | .signOff => takeSignOff who s
  | .jobOpen f => takeJobOpen f who s
  | .segment f => takeSegment f who s
  | .submit n => takeSubmit n who s
  | .cancel n => takeCancel n who s
  | .noSale => takeNoSale who s
  | .retry => takeRetry who s
  | .readDrawer => takeReadDrawer who s

/-- A request reaches its unit (R11). A malformed one is answered BAD_FIELD when it is taken (R13); on SCALE it waits its
turn first (R44). -/
def takeRequest (ch : Channel) (q : Option Request) (who : Admitted) (s : State) : State :=
  match wellFormedRequest q with
  | some r => takeWellFormed r who s
  | none => if ch = .scale then scaleRequest q who s else malformed who s

/-- A request that passed R8 reaches admission with its payload and what that decodes as (R10, R11). -/
def payloadArrives (ch : Channel) (kind tag : Nat) (payload : List Byte) (q : Option Request) (s : State) : State :=
  admitRequest ch kind tag (requestEcho s.link.nextId ch kind payload q) (takeRequest ch q) s

/-- A request that passed R8 reaches admission with its fields; of a malformed payload nothing is given (R10, R11). -/
def requestArrives (ch : Channel) (kind tag : Nat) (q : Option Request) (s : State) : State :=
  payloadArrives ch kind tag [] q s

/-- A kind that is not a request kind of its channel (R11). -/
def unknownKind (who : Admitted) (s : State) : State := respond who .unknownKind .none [] s

/-- A frame that passed R8 reaches admission (R10, R11, R13). -/
def frameArrives (ch : Channel) (kind tag : Nat) (payload : List Byte) (s : State) : State :=
  match payloadReader ch kind with
  | none => admitRequest ch kind tag none unknownKind s
  | some read => payloadArrives ch kind tag payload (readWhole read payload) s

/-! ## Inbound frames (R5 to R9) -/

/-- The inbound error count advances, and LINK_DEGRADED is judged (R9). -/
def inboundDiscard (s : State) : State :=
  let n := min (s.link.errorCount + 1) Config.maxErrorCount
  s.setLink { s.link with
    errorCount := n
    degraded := s.link.degraded || s.store.settings.errorThreshold ≤ n }

/-- The assembler moves on, with the gap timer running outside HUNTING (R5, R6). -/
def setAssembler (a : Assembler) (s : State) : State :=
  let timer := match a with
    | .hunting => none
    | _ => some s.store.settings.gapLimit
  s.setLink { s.link with assembler := a, gapTimer := timer }

/-- A byte of a list, 0 beyond its end. -/
def byteAt (bs : List Byte) (i : Nat) : Nat := ((bs[i]?).getD 0#8).toNat

/-- The payload length a header declares (Table 1-6). -/
def declaredLength (header : List Byte) : Nat := byteAt header 4 + 256 * byteAt header 5

/-- A complete frame is judged (R8); `lane` is the lane ID that seeds its check (R3). Its request marks what it changes by
itself, as several frames may arrive in one command (notes/assumptions/11.md). -/
def judgeFrame (lane : Nat) (header payload check : List Byte) (s : State) : State :=
  if checkHighFirst (frameCheck lane header payload) ≠ check then inboundDiscard s
  else match channelOf (byteAt header 0) with
    | none => inboundDiscard s
    | some ch => noting (frameArrives ch (byteAt header 1) (byteAt header 2) payload) s

/-- The sixth header byte has arrived (R5, R7). -/
def headerComplete (lane : Nat) (header : List Byte) (s : State) : State :=
  let n := declaredLength header
  if Config.maxPayload < n then inboundDiscard (setAssembler .hunting s)
  else if n = 0 then setAssembler (.check lane header [] []) s
  else setAssembler (.payload lane header n []) s

/-- A byte received on RXD (R5). -/
def receiveByte (s : State) (b : Byte) : State :=
  match s.link.assembler with
  | .hunting => if b = 0xA5#8 then setAssembler (.header s.link.lane []) s else s
  | .header lane kept =>
    let kept := kept ++ [b]
    if kept.length < 6 then setAssembler (.header lane kept) s else headerComplete lane kept s
  | .payload lane header need kept =>
    let kept := kept ++ [b]
    if kept.length < need then setAssembler (.payload lane header need kept) s
    else setAssembler (.check lane header kept []) s
  | .check lane header payload kept =>
    let kept := kept ++ [b]
    if kept.length < 2 then setAssembler (.check lane header payload kept) s
    else judgeFrame lane header payload kept (setAssembler .hunting s)

/-- Bytes received on RXD, in order. -/
def receiveBytes (bytes : List Byte) (s : State) : State := bytes.foldl receiveByte s

/-- The gap timer expires (R6). -/
def gapTimeout (s : State) : State :=
  match s.link.gapTimer with
  | none => s
  | some _ => inboundDiscard (setAssembler .hunting s)

/-! ## The end of an outbound frame (R1, R3, R10, R16) -/

/-- The rate of a response's change comes into force; a partial inbound frame is discarded (R1). -/
def applyRate (c : LinkChange) (l : Link) : Link :=
  match c.rate with
  | some r => { l with rate := r, assembler := .hunting, gapTimer := none }
  | none => l

/-- What comes into force when the last byte of a response has been sent (R1, R3). -/
def applyChange (c : LinkChange) (l : Link) : Link :=
  let l := applyRate c l
  { l with rateOverride := c.rateOverride, lane := c.lane.getD l.lane, laneOverride := c.laneOverride }

/-- The request a sent response answers is unanswered no more (R10). -/
def answered (id : Nat) (c : ChannelState) : ChannelState :=
  { c with unanswered := c.unanswered.filter fun r => r.id != id }

/-- What the end of a response does (R1, R3, R10). -/
def responseSent (f : OutFrame) (l : Link) : Link :=
  match f.origin with
  | .notice _ => l
  | .response id change =>
    let l := setChan l f.channel (answered id (chanOf l f.channel))
    match change with
    | some c => applyChange c l
    | none => l

/-- The last check byte of the frame in transmission has been sent (R16). -/
def frameSent (s : State) : State :=
  match s.link.sending with
  | none => s
  | some f =>
    let l := setChan s.link f.channel { chanOf s.link f.channel with life := f.life }
    s.setLink (responseSent f { l with sending := none })

/-! ## Start-up, RESET and the supply (R200) -/

/-- The stored areas and the counter cell loaded at start-up (R200 steps 2 and 3), every volatile state of the Settings
Store reset. -/
def loadStore (kind : ResetKind) (t : Store) : Store :=
  let metroOk := metroGood t && counterGood t
  { metro := if metroOk then t.storedMetro.contents else Metro.default
    settings := if settingsGood t then t.storedSettings.contents else Settings.default
    storedMetro := t.storedMetro
    storedSettings := t.storedSettings
    counterCell := t.counterCell
    metroValid := metroOk
    settingsValid := settingsGood t
    metroChanged := false
    counter := if counterGood t then t.counterCell.contents else 0
    savingMetro := none
    savingSettings := none
    putOff := false
    lastReset := kind }

/-- The state the scale starts in (R43). -/
def startScale (t : Store) : ScaleState :=
  if !t.settings.scaleEnable then .off
  else if consistent t.metro && t.metroValid then .settling
  else .uncalibrated

/-- The state the drawer starts in (R159). -/
def startDrawer (g : Settings) (closed : Bool) : DrawerState :=
  if !g.drawerEnable then .disabled else if closed then .closed else .opened

/-- The Printer Port as start-up leaves it: its capability read begun, or PORT_OFF (R192). -/
def startPort (g : Settings) : Port :=
  if g.printerEnable then { Port.reset with mode := .status, reading := some .other, busyTimer := some g.busyLimit }
  else { Port.reset with stall := some .portOff }

/-- Start-up with the straps read (R200). An answer byte that was on its way to the reader is dropped with the volatile state
of the Card Unit, which the manual leaves open (notes/assumptions/48.md). -/
def startUp (kind : ResetKind) (straps : Straps) (s : State) : State :=
  let t := loadStore kind s.store
  let g := t.settings
  let drawer := startDrawer g s.pins.senseClosed
  { power := .running
    pins := s.pins
    straps := straps
    link := Link.reset (givenRate g straps) (g.rateOverride != 0) (givenLane g straps) (g.laneOverride != 0)
    scale := Scale.reset (startScale t) (if g.scaleEnable then some t.metro.sampleTimeout else none)
    card := Card.reset
    staff := Staff.reset
    ticket := TicketUnit.reset
    journal := ⟨[⟨1, 0, 0, .start kind t.metroValid t.settingsValid none⟩], 2, false, none⟩
    drawer := Drawer.reset drawer s.pins.senseClosed (if drawer = .opened then some g.leftOpenLimit else none)
    lamps := Lamps.reset
    print := Print.reset
    port := startPort g
    store := t
    draws := s.draws
    pending := s.pending }

/-- All activity stops: the frame in transmission and the saves in flight are abandoned (R16, R197, R200). -/
def halt (power : Power) (s : State) : State :=
  let s1 := s.setLink { s.link with sending := none }
  (s1.setStore (abandonSaves s1.store)).setPower power

/-- Start-up, and the arbiter's first choice (R15, R200). -/
def restart (kind : ResetKind) (straps : Straps) (s : State) : State :=
  arbitrate s.draws (startUp kind straps (halt .held s))

/-- RESET has been asserted: a running part is held (R200). -/
def resetHeld (s : State) : State := if s.power = .running then halt .held s else s

/-- RESET has been released: a supplied part starts up (R200). -/
def resetReleased (straps : Straps) (s : State) : State :=
  if s.power = .off then s else restart .resetLine straps s

/-! ## Input levels -/

/-- An input takes a level at any time; the units act on the change only while the part runs (R200). -/
def inputMoment (pins : Pins) (act : State → State) (s : State) : State :=
  let s1 := s.setPins pins
  if s.power = .running ∧ s.pins ≠ pins then settle s (act s1) else s1

end Sys2Proof.Machine
end

