-- ==== Sys2Proof/Machine/CardCommands.lean ====
section
/-! DEFINITION. The commands of the Card Unit (chapter 4): one meaning each. A request row is the request's arrival at
admission (R10) with its tag and its decoded fields; `none` stands for a payload malformed in form (R13). -/

namespace Sys2Proof.Machine

/-- READER_RECORD: Bytes arrive on RDR_RX, up to the LRC byte of a record. (R64, R68) -/
def execReaderRecord (bytes : List Byte) (s : State) : Host.Outcome State Fault Refusal :=
  .next (moment (readerBytes bytes) s)

/-- RECORD_OVERLONG: Bytes arrive on RDR_RX, up to the 49th character of a record. (R64) -/
def execRecordOverlong (bytes : List Byte) (s : State) : Host.Outcome State Fault Refusal :=
  .next (moment (readerBytes bytes) s)

/-- OVERLONG_RECORD_LRC: Bytes arrive on RDR_RX in SKIPPING, up to the byte after an ETX. (R64) -/
def execOverlongRecordLrc (bytes : List Byte) (s : State) : Host.Outcome State Fault Refusal :=
  .next (moment (readerBytes bytes) s)

/-- CHARACTER_TIMER_EXPIRY: The character timer expires. (R65) -/
def execCharacterTimerExpiry (s : State) : Host.Outcome State Fault Refusal :=
  .next (moment charTimeout s)

/-- READER_ANSWER_SENT: The answer byte in transmission has been sent. (R66) -/
def execReaderAnswerSent (s : State) : Host.Outcome State Fault Refusal :=
  .next (moment answerSent s)

/-- SLOT_LIFETIME_EXPIRY: The slot lifetime timer expires. (R80) -/
def execSlotLifetimeExpiry (s : State) : Host.Outcome State Fault Refusal :=
  .next (moment slotTimeout s)

/-- READ CARD (R81) arrives on PAY. -/
def execReadCard (tag : Nat) (fields : Fields Unit) (s : State) : Host.Outcome State Fault Refusal :=
  .next (moment (requestArrives .pay 1 tag (fields.map (fun _ => Request.readCard))) s)

/-- CLEAR CARD (R82) arrives on PAY. -/
def execClearCard (tag : Nat) (fields : Fields Unit) (s : State) : Host.Outcome State Fault Refusal :=
  .next (moment (requestArrives .pay 2 tag (fields.map (fun _ => Request.clearCard))) s)

end Sys2Proof.Machine
end

