-- ==== Sys2Proof/Machine/DrawerCommands.lean ====
section
/-! DEFINITION. The commands of the Drawer Unit and the Lamp Driver (chapter 9): one meaning each. A request row is the request's arrival at
admission (R10) with its tag and its decoded fields; `none` stands for a payload malformed in form (R13). -/

namespace Sys2Proof.Machine

/-- NO_SALE (R154) arrives on DRAWER. -/
def execNoSale (tag : Nat) (fields : Fields Unit) (s : State) : Host.Outcome State Fault Refusal :=
  .next (moment (requestArrives .drawer 1 tag (fields.map (fun _ => Request.noSale))) s)

/-- RETRY (R149) arrives on DRAWER. -/
def execRetry (tag : Nat) (fields : Fields Unit) (s : State) : Host.Outcome State Fault Refusal :=
  .next (moment (requestArrives .drawer 2 tag (fields.map (fun _ => Request.retry))) s)

/-- READ DRAWER (R154) arrives on DRAWER. -/
def execReadDrawer (tag : Nat) (fields : Fields Unit) (s : State) : Host.Outcome State Fault Refusal :=
  .next (moment (requestArrives .drawer 3 tag (fields.map (fun _ => Request.readDrawer))) s)

/-- SENSE_CHANGE: The raw SENSE line changes. (R144) -/
def execSenseChange (closed : Bool) (s : State) : Host.Outcome State Fault Refusal :=
  .next (inputMoment { s.pins with senseClosed := closed } senseChanged s)

/-- DEBOUNCE_TIMER_EXPIRY: The debounce timer expires. (R144) -/
def execDebounceTimerExpiry (s : State) : Host.Outcome State Fault Refusal :=
  .next (moment debounceTimeout s)

/-- PULSE_TIMER_EXPIRY: The pulse timer expires. (R146) -/
def execPulseTimerExpiry (s : State) : Host.Outcome State Fault Refusal :=
  .next (moment pulseTimeout s)

/-- CONFIRM_TIMER_EXPIRY: The confirm timer expires. (R148) -/
def execConfirmTimerExpiry (s : State) : Host.Outcome State Fault Refusal :=
  .next (moment confirmTimeout s)

/-- LEFT_OPEN_TIMER_EXPIRY: The left-open timer expires. (R151) -/
def execLeftOpenTimerExpiry (s : State) : Host.Outcome State Fault Refusal :=
  .next (moment leftOpenTimeout s)

/-- LAMP_FLASH_TOGGLE: Half a flash cycle of a lamp ends. (R158) -/
def execLampFlashToggle (lamp : Lamp) (s : State) : Host.Outcome State Fault Refusal :=
  .next (moment (flashToggle lamp) s)

end Sys2Proof.Machine
end

