-- ==== Sys2Proof/Machine/JournalCommands.lean ====
section
/-! DEFINITION. The commands of the Lane Journal (chapter 8): one meaning each. A request row is the request's arrival at
admission (R10) with its tag and its decoded fields; `none` stands for a payload malformed in form (R13). -/

namespace Sys2Proof.Machine

/-- SET CLOCK (R137) arrives on MGMT. -/
def execSetClock (tag : Nat) (fields : Fields Nat) (s : State) : Host.Outcome State Fault Refusal :=
  .next (moment (requestArrives .mgmt 5 tag (fields.map Request.setClock)) s)

/-- READ JOURNAL (R141) arrives on MGMT. -/
def execReadJournal (tag : Nat) (fields : Fields JournalFields) (s : State) : Host.Outcome State Fault Refusal :=
  .next (moment (requestArrives .mgmt 6 tag (fields.map Request.readJournal)) s)

/-- LANE_CLOCK_SECOND: A full second of the lane clock ends. (R136) -/
def execLaneClockSecond (s : State) : Host.Outcome State Fault Refusal :=
  .next (moment clockSecond s)

end Sys2Proof.Machine
end

