-- ==== Sys2Proof/Machine/LinkCommands.lean ====
section
/-! DEFINITION. The commands of the lane link (chapter 1): one meaning each. A request row is the request's arrival at
admission (R10) with its tag and its decoded fields; `none` stands for a payload malformed in form (R13). -/

namespace Sys2Proof.Machine

/-- LANE_FRAME: Bytes arrive on RXD, up to the second check byte of a frame. (R5, R8) -/
def execLaneFrame (bytes : List Byte) (s : State) : Host.Outcome State Fault Refusal :=
  .next (moment (receiveBytes bytes) s)

/-- FRAME_OVERLENGTH: Bytes arrive on RXD, up to the sixth header byte of an overlong frame. (R7) -/
def execFrameOverlength (bytes : List Byte) (s : State) : Host.Outcome State Fault Refusal :=
  .next (moment (receiveBytes bytes) s)

/-- GAP_TIMER_EXPIRY: The gap timer expires. (R6) -/
def execGapTimerExpiry (s : State) : Host.Outcome State Fault Refusal :=
  .next (moment gapTimeout s)

/-- FRAME_SENT: The last check byte of the frame in transmission has been sent. (R16) -/
def execFrameSent (s : State) : Host.Outcome State Fault Refusal :=
  .next (moment frameSent s)

/-- CTS_CHANGE: CTS changes; at its assertion the arbiter chooses at once. (R2) -/
def execCtsChange (asserted : Bool) (s : State) : Host.Outcome State Fault Refusal :=
  .next (inputMoment { s.pins with cts := asserted } id s)

/-- READ LINK STATUS (R17) arrives on MGMT. -/
def execReadLinkStatus (tag : Nat) (fields : Fields Bool) (s : State) : Host.Outcome State Fault Refusal :=
  .next (moment (requestArrives .mgmt 1 tag (fields.map Request.readLinkStatus)) s)

end Sys2Proof.Machine
end

