-- ==== Sys2Proof/Machine/OperatorCommands.lean ====
section
/-! DEFINITION. The commands of the Operator Unit (chapter 5): one meaning each. A request row is the request's arrival at
admission (R10) with its tag and its decoded fields; `none` stands for a payload malformed in form (R13). -/

namespace Sys2Proof.Machine

/-- SIGN ON (R88) arrives on TICKET. -/
def execSignOn (tag : Nat) (fields : Fields Nat) (s : State) : Host.Outcome State Fault Refusal :=
  .next (moment (requestArrives .ticket 14 tag (fields.map Request.signOn)) s)

/-- SIGN OFF (R89) arrives on TICKET. -/
def execSignOff (tag : Nat) (fields : Fields Unit) (s : State) : Host.Outcome State Fault Refusal :=
  .next (moment (requestArrives .ticket 15 tag (fields.map (fun _ => Request.signOff))) s)

/-- GRANT_TIMER_EXPIRY: The grant timer expires. (R91) -/
def execGrantTimerExpiry (s : State) : Host.Outcome State Fault Refusal :=
  .next (moment grantTimeout s)

end Sys2Proof.Machine
end

