-- ==== Sys2Proof/Machine/PrintCommands.lean ====
section
/-! DEFINITION. The commands of the Print Unit and the Printer Port (chapters 10 and 11): one meaning each. A request row is the request's arrival at
admission (R10) with its tag and its decoded fields; `none` stands for a payload malformed in form (R13). -/

namespace Sys2Proof.Machine

/-- The input levels with FAULT or PAPER_OUT at a level. -/
def printerLevel (line : PrinterLine) (asserted : Bool) (p : Pins) : Pins :=
  match line with
  | .fault => { p with printerFault := asserted }
  | .paperOut => { p with printerPaperOut := asserted }

/-- JOB OPEN (R161) arrives on PRINT. -/
def execJobOpen (tag : Nat) (fields : Fields JobFields) (s : State) : Host.Outcome State Fault Refusal :=
  .next (moment (requestArrives .print 1 tag (fields.map Request.jobOpen)) s)

/-- SEGMENT (R163) arrives on PRINT. -/
def execSegment (tag : Nat) (fields : Fields SegmentFields) (s : State) : Host.Outcome State Fault Refusal :=
  .next (moment (requestArrives .print 2 tag (fields.map Request.segment)) s)

/-- SUBMIT (R166) arrives on PRINT. -/
def execSubmit (tag : Nat) (fields : Fields Nat) (s : State) : Host.Outcome State Fault Refusal :=
  .next (moment (requestArrives .print 3 tag (fields.map Request.submit)) s)

/-- CANCEL (R168) arrives on PRINT. -/
def execCancel (tag : Nat) (fields : Fields Nat) (s : State) : Host.Outcome State Fault Refusal :=
  .next (moment (requestArrives .print 4 tag (fields.map Request.cancel)) s)

/-- JOB_START: The first job of the print order list starts, when that is due. (R162) -/
def execJobStart (s : State) : Host.Outcome State Fault Refusal :=
  .next (moment jobStarts s)

/-- PRINTER_ACK: The printer pulses ACK. (R180) -/
def execPrinterAck (s : State) : Host.Outcome State Fault Refusal :=
  .next (moment printerAcks s)

/-- BLOCK_EXIT: The port leaves BLOCK for COMPAT, when that is due. (R181) -/
def execBlockExit (s : State) : Host.Outcome State Fault Refusal :=
  .next (moment blockExits s)

/-- BUSY_TIMER_EXPIRY: The busy timer expires. (R185, R187) -/
def execBusyTimerExpiry (s : State) : Host.Outcome State Fault Refusal :=
  .next (moment busyTimeout s)

/-- PRINTER_LINE_CHANGE: FAULT or PAPER_OUT changes. (R184, R185) -/
def execPrinterLineChange (line : PrinterLine) (asserted : Bool) (s : State) : Host.Outcome State Fault Refusal :=
  .next (inputMoment (printerLevel line asserted s.pins) (printerLineChanged asserted) s)

/-- POLL_TIMER_EXPIRY: The poll timer expires. (R184) -/
def execPollTimerExpiry (s : State) : Host.Outcome State Fault Refusal :=
  .next (moment pollTimeout s)

/-- STATUS_READ_START: A due status read begins, when the port can make it. (R184) -/
def execStatusReadStart (s : State) : Host.Outcome State Fault Refusal :=
  .next (moment readStarts s)

/-- STATUS_ANSWER: The printer answers with its status byte; `busy` is the level of BUSY. (R187) -/
def execStatusAnswer (status : Byte) (busy : Bool) (s : State) : Host.Outcome State Fault Refusal :=
  .next (moment (statusArrives status busy) s)

/-- BUSY_DEASSERTED: The printer deasserts BUSY. (R180) -/
def execBusyDeasserted (s : State) : Host.Outcome State Fault Refusal :=
  .next (inputMoment { s.pins with printerBusy := false } run s)

end Sys2Proof.Machine
end

