-- ==== Sys2Proof/Machine/ScaleCommands.lean ====
section
/-! DEFINITION. The commands of the Scale Unit (chapters 2 and 3): one meaning each. A request row is the request's arrival at
admission (R10) with its tag and its decoded fields; `none` stands for a payload malformed in form (R13). -/

namespace Sys2Proof.Machine

/-- CAL POINT SET (R26) arrives on MGMT. -/
def execCalPointSet (tag : Nat) (fields : Fields CalPointFields) (s : State) : Host.Outcome State Fault Refusal :=
  .next (moment (requestArrives .mgmt 2 tag (fields.map Request.calPointSet)) s)

/-- CAL POINT DELETE (R27) arrives on MGMT. -/
def execCalPointDelete (tag : Nat) (fields : Fields Nat) (s : State) : Host.Outcome State Fault Refusal :=
  .next (moment (requestArrives .mgmt 3 tag (fields.map Request.calPointDelete)) s)

/-- CAL POINT READ (R29) arrives on MGMT. -/
def execCalPointRead (tag : Nat) (fields : Fields Nat) (s : State) : Host.Outcome State Fault Refusal :=
  .next (moment (requestArrives .mgmt 4 tag (fields.map Request.calPointRead)) s)

/-- ZERO (R37) arrives on SCALE. -/
def execZero (tag : Nat) (fields : Fields Unit) (s : State) : Host.Outcome State Fault Refusal :=
  .next (moment (requestArrives .scale 1 tag (fields.map (fun _ => Request.zero))) s)

/-- TARE (R46) arrives on SCALE. -/
def execTare (tag : Nat) (fields : Fields Unit) (s : State) : Host.Outcome State Fault Refusal :=
  .next (moment (requestArrives .scale 2 tag (fields.map (fun _ => Request.tare))) s)

/-- PRESET TARE (R48) arrives on SCALE. -/
def execPresetTare (tag : Nat) (fields : Fields PresetFields) (s : State) : Host.Outcome State Fault Refusal :=
  .next (moment (requestArrives .scale 3 tag (fields.map Request.presetTare)) s)

/-- CLEAR TARE (R49) arrives on SCALE. -/
def execClearTare (tag : Nat) (fields : Fields Unit) (s : State) : Host.Outcome State Fault Refusal :=
  .next (moment (requestArrives .scale 4 tag (fields.map (fun _ => Request.clearTare))) s)

/-- WEIGH (R54) arrives on SCALE, with its fields or as the bytes of its payload. -/
def execWeigh (tag : Nat) (payload : WeighPayload) (s : State) : Host.Outcome State Fault Refusal :=
  match payload with
  | .fields f => .next (moment (requestArrives .scale 5 tag (some (.weigh f))) s)
  | .bytes bs => .next (moment (frameArrives .scale 5 tag bs) s)

/-- READ SCALE (R42) arrives on SCALE. -/
def execReadScale (tag : Nat) (fields : Fields Unit) (s : State) : Host.Outcome State Fault Refusal :=
  .next (moment (requestArrives .scale 6 tag (fields.map (fun _ => Request.readScale))) s)

/-- SAMPLE_ARRIVAL: A sample arrives from the ADC. (R19) -/
def execSampleArrival (count : Int) (ovr ref : Bool) (s : State) : Host.Outcome State Fault Refusal :=
  .next (moment (fun s => drainScale (sampleArrives count ovr ref s)) s)

/-- SAMPLE_TIMER_EXPIRY: The sample timer expires. (R20) -/
def execSampleTimerExpiry (s : State) : Host.Outcome State Fault Refusal :=
  .next (moment (fun s => drainScale (sampleTimeout s)) s)

/-- MOTION_WAIT_EXPIRY: The motion wait timer expires. (R38, R47) -/
def execMotionWaitExpiry (s : State) : Host.Outcome State Fault Refusal :=
  .next (moment (fun s => drainScale (motionTimeout s)) s)

/-- CAPTURE_WAIT_EXPIRY: The wait timer of a WEIGH expires. (R56) -/
def execCaptureWaitExpiry (s : State) : Host.Outcome State Fault Refusal :=
  .next (moment (fun s => drainScale (captureTimeout s)) s)

end Sys2Proof.Machine
end

