-- ==== Sys2Proof/Machine/StoreCommands.lean ====
section
/-! DEFINITION. The commands of the Settings Store (chapter 12, and the tables of chapters 3, 4 and 10): one meaning each. A request row is the request's arrival at
admission (R10) with its tag and its decoded fields; `none` stands for a payload malformed in form (R13). -/

namespace Sys2Proof.Machine

/-- GET ITEM (R194) arrives on MGMT. -/
def execGetItem (tag : Nat) (fields : Fields Nat) (s : State) : Host.Outcome State Fault Refusal :=
  .next (moment (requestArrives .mgmt 7 tag (fields.map Request.getItem)) s)

/-- SET ITEM (R194) arrives on MGMT. -/
def execSetItem (tag : Nat) (fields : Fields ItemFields) (s : State) : Host.Outcome State Fault Refusal :=
  .next (moment (requestArrives .mgmt 8 tag (fields.map Request.setItem)) s)

/-- SAVE (R196) arrives on MGMT. -/
def execSave (tag : Nat) (fields : Fields Area) (s : State) : Host.Outcome State Fault Refusal :=
  .next (moment (requestArrives .mgmt 9 tag (fields.map Request.save)) s)

/-- SAVE_WRITE_END: The write of a save ends. (R197) -/
def execSaveWriteEnd (area : Area) (verified : Bool) (s : State) : Host.Outcome State Fault Refusal :=
  .next (moment (saveWriteEnds area verified) s)

/-- RELOAD (R198) arrives on MGMT. -/
def execReload (tag : Nat) (fields : Fields Area) (s : State) : Host.Outcome State Fault Refusal :=
  .next (moment (requestArrives .mgmt 10 tag (fields.map Request.reload)) s)

/-- CAL_SWITCH_CHANGE: The CAL switch changes. (R195) -/
def execCalSwitchChange (closed : Bool) (s : State) : Host.Outcome State Fault Refusal :=
  .next (inputMoment { s.pins with calClosed := closed } (calSwitchChanged closed) s)

/-- TARE SET (R50) arrives on MGMT. -/
def execTareSet (tag : Nat) (fields : Fields TareFields) (s : State) : Host.Outcome State Fault Refusal :=
  .next (moment (requestArrives .mgmt 12 tag (fields.map Request.tareSet)) s)

/-- TARE READ (R51) arrives on MGMT. -/
def execTareRead (tag : Nat) (fields : Fields Nat) (s : State) : Host.Outcome State Fault Refusal :=
  .next (moment (requestArrives .mgmt 13 tag (fields.map Request.tareRead)) s)

/-- RANGE INSERT (R78) arrives on MGMT. -/
def execRangeInsert (tag : Nat) (fields : Fields RangeEntry) (s : State) : Host.Outcome State Fault Refusal :=
  .next (moment (requestArrives .mgmt 14 tag (fields.map Request.rangeInsert)) s)

/-- RANGE DELETE (R79) arrives on MGMT. -/
def execRangeDelete (tag : Nat) (fields : Fields Nat) (s : State) : Host.Outcome State Fault Refusal :=
  .next (moment (requestArrives .mgmt 15 tag (fields.map Request.rangeDelete)) s)

/-- RANGE READ (R79) arrives on MGMT. -/
def execRangeRead (tag : Nat) (fields : Fields Nat) (s : State) : Host.Outcome State Fault Refusal :=
  .next (moment (requestArrives .mgmt 16 tag (fields.map Request.rangeRead)) s)

/-- RANGE CLEAR (R79) arrives on MGMT. -/
def execRangeClear (tag : Nat) (fields : Fields Unit) (s : State) : Host.Outcome State Fault Refusal :=
  .next (moment (requestArrives .mgmt 17 tag (fields.map (fun _ => Request.rangeClear))) s)

/-- FRAGMENT WRITE (R176) arrives on MGMT. -/
def execFragmentWrite (tag : Nat) (fields : Fields FragmentFields) (s : State) : Host.Outcome State Fault Refusal :=
  .next (moment (requestArrives .mgmt 18 tag (fields.map Request.fragmentWrite)) s)

/-- FRAGMENT CLEAR (R176) arrives on MGMT. -/
def execFragmentClear (tag : Nat) (fields : Fields Nat) (s : State) : Host.Outcome State Fault Refusal :=
  .next (moment (requestArrives .mgmt 19 tag (fields.map Request.fragmentClear)) s)

/-- FRAGMENT READ (R177) arrives on MGMT. -/
def execFragmentRead (tag : Nat) (fields : Fields FragmentReadFields) (s : State) : Host.Outcome State Fault Refusal :=
  .next (moment (requestArrives .mgmt 20 tag (fields.map Request.fragmentRead)) s)

end Sys2Proof.Machine
end

