-- ==== Sys2Proof/Machine/SupplyCommands.lean ====
section
/-! DEFINITION. The commands of the supply, the RESET line and LANE RESET (chapter 12): one meaning each. A request row is the request's arrival at
admission (R10) with its tag and its decoded fields; `none` stands for a payload malformed in form (R13). -/

namespace Sys2Proof.Machine

/-- POWER_ON: The supply is established with the straps as they stand. While the RESET line is asserted start-up waits for
its release. (R200) -/
def execPowerOn (lr lid : Nat) (s : State) : Host.Outcome State Fault Refusal :=
  .next (if s.pins.resetAsserted then halt .held s else restart .powerOn ⟨lr, lid⟩ s)

/-- RESET_LINE_ASSERT: The RESET line is asserted: all activity stops. Without supply the line alone takes its level.
(R200) -/
def execResetLineAssert (s : State) : Host.Outcome State Fault Refusal :=
  .next (resetHeld (s.setPins { s.pins with resetAsserted := true }))

/-- RESET_LINE_RELEASE: The RESET line is released: start-up runs with the straps as they stand. Without supply the line
alone takes its level. (R200) -/
def execResetLineRelease (lr lid : Nat) (s : State) : Host.Outcome State Fault Refusal :=
  .next (resetReleased ⟨lr, lid⟩ (s.setPins { s.pins with resetAsserted := false }))

/-- SUPPLY_LOSS: The supply is lost: all activity stops. The RESET line keeps its level. (R16, R200) -/
def execSupplyLoss (s : State) : Host.Outcome State Fault Refusal :=
  .next (halt .off s)

/-- LANE RESET (R199) arrives on MGMT. -/
def execLaneReset (tag : Nat) (fields : Fields Unit) (s : State) : Host.Outcome State Fault Refusal :=
  .next (moment (requestArrives .mgmt 11 tag (fields.map (fun _ => Request.laneReset))) s)

end Sys2Proof.Machine
end

