-- ==== Sys2Proof/Machine/TicketCommands.lean ====
section
/-! DEFINITION. The commands of the Ticket Unit (chapters 6 and 7): one meaning each. A request row is the request's arrival at
admission (R10) with its tag and its decoded fields; `none` stands for a payload malformed in form (R13). -/

namespace Sys2Proof.Machine

/-- OPEN TICKET (R98) arrives on TICKET. -/
def execOpenTicket (tag : Nat) (fields : Fields Unit) (s : State) : Host.Outcome State Fault Refusal :=
  .next (moment (requestArrives .ticket 1 tag (fields.map (fun _ => Request.openTicket))) s)

/-- SET NEXT TICKET (R100) arrives on TICKET. -/
def execSetNextTicket (tag : Nat) (fields : Fields Nat) (s : State) : Host.Outcome State Fault Refusal :=
  .next (moment (requestArrives .ticket 2 tag (fields.map Request.setNextTicket)) s)

/-- KEYED LINE (R104) arrives on TICKET. -/
def execKeyedLine (tag : Nat) (fields : Fields KeyedFields) (s : State) : Host.Outcome State Fault Refusal :=
  .next (moment (requestArrives .ticket 3 tag (fields.map Request.keyedLine)) s)

/-- VOID LINE (R106) arrives on TICKET. -/
def execVoidLine (tag : Nat) (fields : Fields Nat) (s : State) : Host.Outcome State Fault Refusal :=
  .next (moment (requestArrives .ticket 4 tag (fields.map Request.voidLine)) s)

/-- READ LINE (R107) arrives on TICKET. -/
def execReadLine (tag : Nat) (fields : Fields Nat) (s : State) : Host.Outcome State Fault Refusal :=
  .next (moment (requestArrives .ticket 5 tag (fields.map Request.readLine)) s)

/-- TOTAL CHECK (R108) arrives on TICKET. -/
def execTotalCheck (tag : Nat) (fields : Fields Int) (s : State) : Host.Outcome State Fault Refusal :=
  .next (moment (requestArrives .ticket 6 tag (fields.map Request.totalCheck)) s)

/-- ABANDON (R111) arrives on TICKET. -/
def execAbandon (tag : Nat) (fields : Fields Unit) (s : State) : Host.Outcome State Fault Refusal :=
  .next (moment (requestArrives .ticket 7 tag (fields.map (fun _ => Request.abandon))) s)

/-- CASH (R119) arrives on TICKET. -/
def execCash (tag : Nat) (fields : Fields Nat) (s : State) : Host.Outcome State Fault Refusal :=
  .next (moment (requestArrives .ticket 8 tag (fields.map Request.cash)) s)

/-- CARD (R120) arrives on TICKET. -/
def execCard (tag : Nat) (fields : Fields TenderFields) (s : State) : Host.Outcome State Fault Refusal :=
  .next (moment (requestArrives .ticket 9 tag (fields.map Request.card)) s)

/-- GIFT (R120) arrives on TICKET. -/
def execGift (tag : Nat) (fields : Fields TenderFields) (s : State) : Host.Outcome State Fault Refusal :=
  .next (moment (requestArrives .ticket 10 tag (fields.map Request.gift)) s)

/-- OTHER (R121) arrives on TICKET. -/
def execOther (tag : Nat) (fields : Fields TenderFields) (s : State) : Host.Outcome State Fault Refusal :=
  .next (moment (requestArrives .ticket 11 tag (fields.map Request.other)) s)

/-- WAIVE RECEIPT (R129) arrives on TICKET. -/
def execWaiveReceipt (tag : Nat) (fields : Fields Unit) (s : State) : Host.Outcome State Fault Refusal :=
  .next (moment (requestArrives .ticket 12 tag (fields.map (fun _ => Request.waiveReceipt))) s)

/-- FORCE CLOSE (R130) arrives on TICKET. -/
def execForceClose (tag : Nat) (fields : Fields Unit) (s : State) : Host.Outcome State Fault Refusal :=
  .next (moment (requestArrives .ticket 13 tag (fields.map (fun _ => Request.forceClose))) s)

end Sys2Proof.Machine
end

