-- ==== Sys2Proof/Machine/Dispatch.lean ====
section
/-! DEFINITION. The one dispatch of the commands to their meanings. -/

namespace Sys2Proof.Machine

/-- The effect of a command on everything but the queue of commands. -/
def exec (i : Instr) (s : State) : Host.Outcome State Fault Refusal :=
  match i with
  | .powerOn lr lid => Sys2Proof.Machine.execPowerOn lr lid s
  | .resetLineAssert => Sys2Proof.Machine.execResetLineAssert s
  | .resetLineRelease lr lid => Sys2Proof.Machine.execResetLineRelease lr lid s
  | .ctsChange asserted => Sys2Proof.Machine.execCtsChange asserted s
  | .laneFrame bytes => Sys2Proof.Machine.execLaneFrame bytes s
  | .frameOverlength bytes => Sys2Proof.Machine.execFrameOverlength bytes s
  | .gapTimerExpiry => Sys2Proof.Machine.execGapTimerExpiry s
  | .frameSent => Sys2Proof.Machine.execFrameSent s
  | .readLinkStatus tag fields => Sys2Proof.Machine.execReadLinkStatus tag fields s
  | .calPointSet tag fields => Sys2Proof.Machine.execCalPointSet tag fields s
  | .calPointDelete tag fields => Sys2Proof.Machine.execCalPointDelete tag fields s
  | .calPointRead tag fields => Sys2Proof.Machine.execCalPointRead tag fields s
  | .setClock tag fields => Sys2Proof.Machine.execSetClock tag fields s
  | .readJournal tag fields => Sys2Proof.Machine.execReadJournal tag fields s
  | .getItem tag fields => Sys2Proof.Machine.execGetItem tag fields s
  | .setItem tag fields => Sys2Proof.Machine.execSetItem tag fields s
  | .save tag fields => Sys2Proof.Machine.execSave tag fields s
  | .saveWriteEnd area verified => Sys2Proof.Machine.execSaveWriteEnd area verified s
  | .reload tag fields => Sys2Proof.Machine.execReload tag fields s
  | .laneReset tag fields => Sys2Proof.Machine.execLaneReset tag fields s
  | .tareSet tag fields => Sys2Proof.Machine.execTareSet tag fields s
  | .tareRead tag fields => Sys2Proof.Machine.execTareRead tag fields s
  | .rangeInsert tag fields => Sys2Proof.Machine.execRangeInsert tag fields s
  | .rangeDelete tag fields => Sys2Proof.Machine.execRangeDelete tag fields s
  | .rangeRead tag fields => Sys2Proof.Machine.execRangeRead tag fields s
  | .rangeClear tag fields => Sys2Proof.Machine.execRangeClear tag fields s
  | .fragmentWrite tag fields => Sys2Proof.Machine.execFragmentWrite tag fields s
  | .fragmentClear tag fields => Sys2Proof.Machine.execFragmentClear tag fields s
  | .fragmentRead tag fields => Sys2Proof.Machine.execFragmentRead tag fields s
  | .zero tag fields => Sys2Proof.Machine.execZero tag fields s
  | .tare tag fields => Sys2Proof.Machine.execTare tag fields s
  | .presetTare tag fields => Sys2Proof.Machine.execPresetTare tag fields s
  | .clearTare tag fields => Sys2Proof.Machine.execClearTare tag fields s
  | .weigh tag payload => Sys2Proof.Machine.execWeigh tag payload s
  | .readScale tag fields => Sys2Proof.Machine.execReadScale tag fields s
  | .sampleArrival count ovr ref => Sys2Proof.Machine.execSampleArrival count ovr ref s
  | .sampleTimerExpiry => Sys2Proof.Machine.execSampleTimerExpiry s
  | .motionWaitExpiry => Sys2Proof.Machine.execMotionWaitExpiry s
  | .captureWaitExpiry => Sys2Proof.Machine.execCaptureWaitExpiry s
  | .calSwitchChange closed => Sys2Proof.Machine.execCalSwitchChange closed s
  | .readerRecord bytes => Sys2Proof.Machine.execReaderRecord bytes s
  | .recordOverlong bytes => Sys2Proof.Machine.execRecordOverlong bytes s
  | .characterTimerExpiry => Sys2Proof.Machine.execCharacterTimerExpiry s
  | .readerAnswerSent => Sys2Proof.Machine.execReaderAnswerSent s
  | .slotLifetimeExpiry => Sys2Proof.Machine.execSlotLifetimeExpiry s
  | .readCard tag fields => Sys2Proof.Machine.execReadCard tag fields s
  | .clearCard tag fields => Sys2Proof.Machine.execClearCard tag fields s
  | .signOn tag fields => Sys2Proof.Machine.execSignOn tag fields s
  | .signOff tag fields => Sys2Proof.Machine.execSignOff tag fields s
  | .grantTimerExpiry => Sys2Proof.Machine.execGrantTimerExpiry s
  | .openTicket tag fields => Sys2Proof.Machine.execOpenTicket tag fields s
  | .setNextTicket tag fields => Sys2Proof.Machine.execSetNextTicket tag fields s
  | .keyedLine tag fields => Sys2Proof.Machine.execKeyedLine tag fields s
  | .voidLine tag fields => Sys2Proof.Machine.execVoidLine tag fields s
  | .readLine tag fields => Sys2Proof.Machine.execReadLine tag fields s
  | .totalCheck tag fields => Sys2Proof.Machine.execTotalCheck tag fields s
  | .abandon tag fields => Sys2Proof.Machine.execAbandon tag fields s
  | .cash tag fields => Sys2Proof.Machine.execCash tag fields s
  | .card tag fields => Sys2Proof.Machine.execCard tag fields s
  | .gift tag fields => Sys2Proof.Machine.execGift tag fields s
  | .other tag fields => Sys2Proof.Machine.execOther tag fields s
  | .waiveReceipt tag fields => Sys2Proof.Machine.execWaiveReceipt tag fields s
  | .forceClose tag fields => Sys2Proof.Machine.execForceClose tag fields s
  | .laneClockSecond => Sys2Proof.Machine.execLaneClockSecond s
  | .noSale tag fields => Sys2Proof.Machine.execNoSale tag fields s
  | .retry tag fields => Sys2Proof.Machine.execRetry tag fields s
  | .readDrawer tag fields => Sys2Proof.Machine.execReadDrawer tag fields s
  | .senseChange closed => Sys2Proof.Machine.execSenseChange closed s
  | .debounceTimerExpiry => Sys2Proof.Machine.execDebounceTimerExpiry s
  | .pulseTimerExpiry => Sys2Proof.Machine.execPulseTimerExpiry s
  | .confirmTimerExpiry => Sys2Proof.Machine.execConfirmTimerExpiry s
  | .leftOpenTimerExpiry => Sys2Proof.Machine.execLeftOpenTimerExpiry s
  | .lampFlashToggle lamp => Sys2Proof.Machine.execLampFlashToggle lamp s
  | .jobOpen tag fields => Sys2Proof.Machine.execJobOpen tag fields s
  | .segment tag fields => Sys2Proof.Machine.execSegment tag fields s
  | .submit tag fields => Sys2Proof.Machine.execSubmit tag fields s
  | .cancel tag fields => Sys2Proof.Machine.execCancel tag fields s
  | .jobStart => Sys2Proof.Machine.execJobStart s
  | .printerAck => Sys2Proof.Machine.execPrinterAck s
  | .blockExit => Sys2Proof.Machine.execBlockExit s
  | .busyTimerExpiry => Sys2Proof.Machine.execBusyTimerExpiry s
  | .printerLineChange line asserted => Sys2Proof.Machine.execPrinterLineChange line asserted s
  | .pollTimerExpiry => Sys2Proof.Machine.execPollTimerExpiry s
  | .statusReadStart => Sys2Proof.Machine.execStatusReadStart s
  | .statusAnswer status busy => Sys2Proof.Machine.execStatusAnswer status busy s
  | .overlongRecordLrc bytes => Sys2Proof.Machine.execOverlongRecordLrc bytes s
  | .busyDeasserted => Sys2Proof.Machine.execBusyDeasserted s
  | .supplyLoss => Sys2Proof.Machine.execSupplyLoss s

end Sys2Proof.Machine
end

