-- ==== Sys2Proof/Safety.lean ====
section
/-! DEFINITION. The terms the claims use: what a command leaves unchanged, what it answers, and the invariants of the
machine that the manual states in its prose. -/

namespace Sys2Proof.Machine

/-! ## What a command leaves unchanged -/

/-- The parts of the state outside the Link Interface. -/
inductive Part where
  | power | pins | straps | scale | card | staff | ticket | journal | drawer | lamps | print | port | store | pending
deriving DecidableEq, Repr

/-- A part is the same in two states. -/
def Part.same (p : Part) (s t : State) : Prop :=
  match p with
  | .power => t.power = s.power
  | .pins => t.pins = s.pins
  | .straps => t.straps = s.straps
  | .scale => t.scale = s.scale
  | .card => t.card = s.card
  | .staff => t.staff = s.staff
  | .ticket => t.ticket = s.ticket
  | .journal => t.journal = s.journal
  | .drawer => t.drawer = s.drawer
  | .lamps => t.lamps = s.lamps
  | .print => t.print = s.print
  | .port => t.port = s.port
  | .store => t.store = s.store
  | .pending => t.pending = s.pending

/-- Every part but those listed is the same. -/
def Keeps (changed : List Part) (s t : State) : Prop := ∀ p, p ∉ changed → p.same s t

/-- The Link Interface but for its mail and its owed marks is the same: assembler, errors, rate, lane ID, life values and
overrun flags. -/
structure LinkKept (s t : State) : Prop where
  assembler : t.link.assembler = s.link.assembler
  gapTimer : t.link.gapTimer = s.link.gapTimer
  errorCount : t.link.errorCount = s.link.errorCount
  degraded : t.link.degraded = s.link.degraded
  rate : t.link.rate = s.link.rate
  rateOverride : t.link.rateOverride = s.link.rateOverride
  lane : t.link.lane = s.link.lane
  laneOverride : t.link.laneOverride = s.link.laneOverride
  life : ∀ ch, (chanOf t.link ch).life = (chanOf s.link ch).life
  overrun : ∀ ch, (chanOf t.link ch).overrun = (chanOf s.link ch).overrun

/-- The Link Interface but for its mail, its owed marks, its assembler and its error counts is the same. -/
structure LinkRest (s t : State) : Prop where
  rate : t.link.rate = s.link.rate
  rateOverride : t.link.rateOverride = s.link.rateOverride
  lane : t.link.lane = s.link.lane
  laneOverride : t.link.laneOverride = s.link.laneOverride
  life : ∀ ch, (chanOf t.link ch).life = (chanOf s.link ch).life

/-! ## What a command answers -/

/-- The response a frame carries, if it is one. -/
def responseOf (f : OutFrame) : Option Response :=
  match f.origin with
  | .response id change => some ⟨id, f.kind, f.tag, f.payload, change⟩
  | .notice _ => none

/-- The response of a channel that is in transmission. -/
def inFlight (l : Link) (ch : Channel) : List Response :=
  match l.sending with
  | some f => if f.channel = ch then (responseOf f).toList else []
  | none => []

/-- The responses a channel has produced and not yet sent, oldest first: the one in transmission, then the queue. -/
def outbox (l : Link) (ch : Channel) : List Response := inFlight l ch ++ (chanOf l ch).responses

/-- A request with this tag on this channel is admitted and passes the check of its tag (R10, R11). -/
def Admits (s : State) (ch : Channel) (tag : Nat) : Prop :=
  s.power = .running ∧ (chanOf s.link ch).unanswered.length < 4 ∧ tag ≠ 0

/-- The mail of a channel is the same. -/
def MailSame (ch : Channel) (s t : State) : Prop :=
  (chanOf t.link ch).unanswered = (chanOf s.link ch).unanswered ∧ outbox t.link ch = outbox s.link ch

/-- One request has been admitted on a channel and answered there; every other channel's mail is the same. -/
structure Answers (s t : State) (who : Admitted) (payload : List Byte) (change : Option LinkChange) : Prop where
  unanswered : (chanOf t.link who.channel).unanswered = (chanOf s.link who.channel).unanswered ++ [who]
  outbox : outbox t.link who.channel = outbox s.link who.channel ++ [⟨who.id, who.kind, who.tag, payload, change⟩]
  others : ∀ ch, ch ≠ who.channel → MailSame ch s t

/-- One request has been admitted on a channel and waits for its answer; every other channel's mail is the same. -/
structure Waits (s t : State) (who : Admitted) : Prop where
  unanswered : (chanOf t.link who.channel).unanswered = (chanOf s.link who.channel).unanswered ++ [who]
  outbox : outbox t.link who.channel = outbox s.link who.channel
  others : ∀ ch, ch ≠ who.channel → MailSame ch s t

/-- The admission record of the next request. -/
def asker (s : State) (ch : Channel) (kind tag : Nat) (echo : Option WeighEcho) : Admitted :=
  ⟨s.link.nextId, ch, kind, tag, echo⟩

/-- A partial or unacceptable inbound frame is discarded: the assembler is in HUNTING with its timer stopped, the inbound
error count has advanced by one up to 65,535, LINK_DEGRADED has been judged, and nothing else has changed (R6 to R9). -/
structure Discards (s t : State) : Prop where
  assembler : t.link.assembler = .hunting
  gapTimer : t.link.gapTimer = none
  errorCount : t.link.errorCount = min (s.link.errorCount + 1) 65535
  degraded : t.link.degraded
    = (s.link.degraded || decide (s.store.settings.errorThreshold ≤ min (s.link.errorCount + 1) 65535))
  overrun : ∀ ch, (chanOf t.link ch).overrun = (chanOf s.link ch).overrun
  mail : ∀ ch, MailSame ch s t
  rest : LinkRest s t
  units : Keeps [] s t

/-- How many request kinds a channel has: they are numbered from 1 (Table 1-10). -/
def requestKinds : Channel → Nat
  | .mgmt => 20
  | .scale => 6
  | .card => 0
  | .pay => 2
  | .ticket => 15
  | .print => 4
  | .drawer => 3

/-- A command completes: it answers a next state in which its request is answered, all but the listed parts and the
channel's mail are the same, and `post` holds. -/
def Completes (c : Instr) (s : State) (who : Admitted) (payload : List Byte) (change : Option LinkChange)
    (changed : List Part) (post : State → Prop) : Prop :=
  ∃ t, exec c s = .next t ∧ Answers s t who payload change ∧ LinkKept s t ∧ Keeps changed s t ∧ post t

/-- An event happens: the command answers a next state in which all but the listed parts are the same and `post` holds;
no request is answered. -/
def Happens (c : Instr) (s : State) (changed : List Part) (post : State → Prop) : Prop :=
  ∃ t, exec c s = .next t ∧ (∀ ch, MailSame ch s t) ∧ LinkKept s t ∧ Keeps changed s t ∧ post t

/-- An event happens that answers one request admitted earlier. -/
def AnswersLater (c : Instr) (s : State) (who : Admitted) (payload : List Byte) (changed : List Part)
    (post : State → Prop) : Prop :=
  ∃ t, exec c s = .next t ∧ (chanOf t.link who.channel).unanswered = (chanOf s.link who.channel).unanswered
    ∧ outbox t.link who.channel = outbox s.link who.channel ++ [⟨who.id, who.kind, who.tag, payload, none⟩]
    ∧ (∀ ch, ch ≠ who.channel → MailSame ch s t) ∧ LinkKept s t ∧ Keeps changed s t ∧ post t

/-- Requests have been admitted and requests have been answered, on each channel in this order; the mail is otherwise the
same. An answer is given with its payload and what comes into force at its end. -/
def MailAfter (admitted : List Admitted) (answers : List (Admitted × List Byte × Option LinkChange)) (s t : State) : Prop :=
  ∀ ch, (chanOf t.link ch).unanswered = (chanOf s.link ch).unanswered ++ admitted.filter (fun r => r.channel == ch)
    ∧ outbox t.link ch = outbox s.link ch ++ (answers.filter fun a => a.1.channel == ch).map fun a =>
      ⟨a.1.id, a.1.kind, a.1.tag, a.2.1, a.2.2⟩

/-- The scale operation in flight once the scale has entered a state other than FAULT: READY keeps it; SETTLING and NO_ZERO
keep a WEIGH, its blocking reason NOT_READY; every other entry ends it (R38, R47, R55, R56). -/
def opEntering (state : ScaleState) (op : ScaleOp) : Option ScaleOp :=
  match state, op with
  | .ready, _ => some op
  | .settling, .weigh who f timer _ | .noZero, .weigh who f timer _ => some (.weigh who f timer .notReady)
  | _, _ => none

/-- The scale operation in flight once the scale, in one state in `s`, is in another in `t`. -/
def opAfter (s t : State) : Option ScaleOp :=
  if t.scale.state = s.scale.state then s.scale.op else s.scale.op.bind (opEntering t.scale.state)

/-- The answer of an operation in flight that has ended because the scale left the states it waits in (R38, R47, R56). -/
def opAnswer (s t : State) : List (Admitted × List Byte × Option LinkChange) :=
  match s.scale.op, t.scale.op with
  | some op, none => [(opWho op, responsePayload .rejected .scaleState (plainFields (opWho op)), none)]
  | _, _ => []

/-- A command completes, and the scale operation in flight is answered if the command has ended it. -/
def CompletesEnding (c : Instr) (s : State) (who : Admitted) (payload : List Byte) (change : Option LinkChange)
    (changed : List Part) (post : State → Prop) : Prop :=
  ∃ t, exec c s = .next t ∧ MailAfter [who] (opAnswer s t ++ [(who, payload, change)]) s t ∧ LinkKept s t
    ∧ Keeps changed s t ∧ post t

/-- An event happens, and the scale operation in flight is answered if the event has ended it. -/
def HappensEnding (c : Instr) (s : State) (changed : List Part) (post : State → Prop) : Prop :=
  ∃ t, exec c s = .next t ∧ MailAfter [] (opAnswer s t) s t ∧ LinkKept s t ∧ Keeps changed s t ∧ post t

/-- An event happens that answers one request admitted earlier, and then the scale operation in flight if it has ended it. -/
def AnswersLaterEnding (c : Instr) (s : State) (who : Admitted) (payload : List Byte) (changed : List Part)
    (post : State → Prop) : Prop :=
  ∃ t, exec c s = .next t ∧ MailAfter [] ((who, payload, none) :: opAnswer s t) s t ∧ LinkKept s t ∧ Keeps changed s t
    ∧ post t

/-- A notice kind has become owed: it is, or its frame has started at once (R14, R15). -/
def Notifies (k : NoticeKind) (s t : State) : Prop :=
  owes t.link.owed k = true ∨ s.link.sending = none ∧ ∃ f, t.link.sending = some f ∧ f.origin = .notice k

/-- Nothing is due at the printing side: what every command that reaches it leaves. -/
def PrintQuiet (s : State) : Prop := progress s = none

/-- The row of a request with its tag, its fields put in by `form`. -/
def rowOf (tag : Nat) (form : {α : Type} → α → Option α) : Request → Instr
  | .readLinkStatus x => .readLinkStatus tag (form x)
  | .calPointSet x => .calPointSet tag (form x)
  | .calPointDelete x => .calPointDelete tag (form x)
  | .calPointRead x => .calPointRead tag (form x)
  | .setClock x => .setClock tag (form x)
  | .readJournal x => .readJournal tag (form x)
  | .getItem x => .getItem tag (form x)
  | .setItem x => .setItem tag (form x)
  | .save x => .save tag (form x)
  | .reload x => .reload tag (form x)
  | .laneReset => .laneReset tag (form ())
  | .tareSet x => .tareSet tag (form x)
  | .tareRead x => .tareRead tag (form x)
  | .rangeInsert x => .rangeInsert tag (form x)
  | .rangeDelete x => .rangeDelete tag (form x)
  | .rangeRead x => .rangeRead tag (form x)
  | .rangeClear => .rangeClear tag (form ())
  | .fragmentWrite x => .fragmentWrite tag (form x)
  | .fragmentClear x => .fragmentClear tag (form x)
  | .fragmentRead x => .fragmentRead tag (form x)
  | .zero => .zero tag (form ())
  | .tare => .tare tag (form ())
  | .presetTare x => .presetTare tag (form x)
  | .clearTare => .clearTare tag (form ())
  | .weigh x => .weigh tag (match form x with | some f => .fields f | none => .bytes [])
  | .readScale => .readScale tag (form ())
  | .readCard => .readCard tag (form ())
  | .clearCard => .clearCard tag (form ())
  | .openTicket => .openTicket tag (form ())
  | .setNextTicket x => .setNextTicket tag (form x)
  | .keyedLine x => .keyedLine tag (form x)
  | .voidLine x => .voidLine tag (form x)
  | .readLine x => .readLine tag (form x)
  | .totalCheck x => .totalCheck tag (form x)
  | .abandon => .abandon tag (form ())
  | .cash x => .cash tag (form x)
  | .card x => .card tag (form x)
  | .gift x => .gift tag (form x)
  | .other x => .other tag (form x)
  | .waiveReceipt => .waiveReceipt tag (form ())
  | .forceClose => .forceClose tag (form ())
  | .signOn x => .signOn tag (form x)
  | .signOff => .signOff tag (form ())
  | .jobOpen x => .jobOpen tag (form x)
  | .segment x => .segment tag (form x)
  | .submit x => .submit tag (form x)
  | .cancel x => .cancel tag (form x)
  | .noSale => .noSale tag (form ())
  | .retry => .retry tag (form ())
  | .readDrawer => .readDrawer tag (form ())

/-- What is kept to echo of a WEIGH with this payload: each of item code, U and base that the payload holds, whatever follows
it (R54, R59). -/
structure EchoesPayload (payload : List Byte) (e : WeighEcho) : Prop where
  item : ∀ item rest, item < 2 ^ 32 → payload = u32 item ++ rest → e.item = item
  price : ∀ item price rest, price < 2 ^ 32 → payload = u32 item ++ u32 price ++ rest → e.price = price
  base : ∀ item price base rest, payload = u32 item ++ u32 price ++ u8 (priceBaseCode base) ++ rest →
    e.base = priceBaseCode base

/-- The command that a request is, with its tag. -/
def commandOf (tag : Nat) (r : Request) : Instr := rowOf tag some r

/-- The row of a request whose payload is malformed in form (R13), that of WEIGH with no byte. -/
def malformedOf (tag : Nat) (r : Request) : Instr := rowOf tag (fun _ => none) r

/-! ## Waiting SCALE requests (R44) -/

/-- The waiting request is that of this row of SCALE, as it was admitted. -/
def WaitsFrom (c : Instr) (q : ScaleRequest) : Prop :=
  ∃ r tag, requestChannel r = .scale ∧ tag ≠ 0
    ∧ (c = commandOf tag r ∧ q = ⟨⟨q.who.id, .scale, requestKind r, tag, weighEcho r⟩, some r⟩
      ∨ c = malformedOf tag r
        ∧ q = ⟨⟨q.who.id, .scale, requestKind r, tag, requestEcho q.who.id .scale (requestKind r) [] none⟩, none⟩
      ∨ ∃ payload, readWhole readWeigh payload = none ∧ c = .weigh tag (.bytes payload)
        ∧ q = ⟨⟨q.who.id, .scale, 5, tag, some (readEcho (unreadEcho q.who.id) payload)⟩, none⟩)

/-- The state with room for one more request on SCALE and with its serial number of admission next. -/
def roomFor (id : Nat) (s : State) : State :=
  s.setLink { setChan s.link .scale { s.link.scale with unanswered := [] } with nextId := id }

/-- SCALE requests arrive one after another, each with its serial number of admission. -/
def arriveInTurn : List (Nat × Instr) → State → State
  | [], s => s
  | (id, c) :: rest, s =>
    match exec c (roomFor id s) with
    | .next t => arriveInTurn rest t
    | _ => s

/-! ## Shapes of effects -/

/-- `x` grams is the multiple of `division` grams nearest to `g` milligrams, the one farther from zero at a half
(R33, R52). -/
def NearestAway (g : Int) (division : Nat) (x : Int) : Prop :=
  ∃ k : Int, x = k * division ∧ 2 * (g - x * 1000).natAbs ≤ division * 1000
    ∧ (2 * (g - x * 1000).natAbs = division * 1000 → g.natAbs < (x * 1000).natAbs)

/-- `x` is `num` divided by `den`, to nearest, with halves away from zero (R25). -/
def RoundsAway (num : Int) (den : Nat) (x : Int) : Prop :=
  2 * (num - x * den).natAbs ≤ den ∧ (2 * (num - x * den).natAbs = den → num.natAbs < (x * den).natAbs)

/-- The weight the calibration table gives a filtered count: on the first segment below the second point, on the last from
the last point but one on, otherwise on the segment the count lies in (R25). -/
def WeightAt (points : List CalPoint) (c w : Int) : Prop :=
  ∃ before a b after, points = before ++ a :: b :: after ∧ (before = [] ∨ a.count ≤ c) ∧ (after = [] ∨ c < b.count)
    ∧ RoundsAway ((c - a.count) * (b.weight - a.weight)) (b.count - a.count).toNat (w - a.weight)

/-- The sample window after a count has joined: the 32 newest counts (R23). -/
def windowAfter (s : State) (count : Int) : List Int :=
  (s.scale.window ++ [count]).drop ((s.scale.window ++ [count]).length - 32)

/-- The filtered count of a window: the sum of its F newest counts divided by F, to nearest, halves toward +∞ (R23). -/
def filteredOf (f : Nat) (window : List Int) : Int := (2 * (window.drop (window.length - f)).sum + f) / (2 * f)

/-- The filtered-weight window after a weight has joined: the M newest weights (R35). -/
def weightsAfter (s : State) (w : Int) : List Int :=
  (s.scale.weights ++ [w]).drop ((s.scale.weights ++ [w]).length - s.store.metro.motionWindow)

/-- A filtered-weight window is stable: M weights within B × d1 (R35). -/
def StableWindow (m : Metro) (weights : List Int) : Prop :=
  weights.length = m.motionWindow ∧ weights ≠ []
    ∧ ∀ a ∈ weights, ∀ b ∈ weights, a - b ≤ m.motionBand * m.d1 * 1000

/-- A sample arrival with this count produces a filtered count, and the table gives it the weight `w` (R23, R25). -/
structure Weighs (s : State) (count w : Int) : Prop where
  running : s.power = .running
  divisions : 1 ≤ s.store.metro.d1 ∧ 1 ≤ s.store.metro.d2
  filter : 1 ≤ s.store.metro.filterLength ∧ s.store.metro.filterLength ≤ 32
    ∧ s.store.metro.filterLength ≤ s.scale.joined + 1
  points : s.store.metro.points.Pairwise fun a b => a.count < b.count
  weight : WeightAt s.store.metro.points (filteredOf s.store.metro.filterLength (windowAfter s count)) w

/-- The division of a gross raw weight, by its range (R33). -/
def divisionAt (m : Metro) (g : Int) : Nat := if g ≤ m.max1 * 1000 then m.d1 else m.d2

/-- The values READY holds at a weight `w` with the zero reference `z`, the displayed gross `x` and the displayed net `y`
(R33, R34), with MAX1, MAX2 and d1 as they stand at it (R32). -/
def readingOf (m : Metro) (z w x y : Int) (ovr : Bool) : Reading where
  weight := w
  gross := w - z
  range := if w - z ≤ m.max1 * 1000 then 1 else 2
  division := divisionAt m (w - z)
  displayedGross := x
  displayedNet := y
  overload := decide (((m.max2 + 9 * m.d2) * 1000 : Int) < w - z ∨ ovr = true)
  underload := decide (w - z < -(20 * m.d1 * 1000))
  centre := decide ((w - z).natAbs ≤ 250 * m.d1)
  max1 := m.max1
  max2 := m.max2
  d1 := m.d1

/-- The filter after an arrival that produced a filtered count of weight `w` (R19, R20, R23, R35). -/
structure Filtered (s t : State) (count w : Int) : Prop where
  window : t.scale.window = windowAfter s count
  joined : t.scale.joined = s.scale.joined + 1
  latest : t.scale.latest = some (filteredOf s.store.metro.filterLength (windowAfter s count))
  sampleTimer : t.scale.sampleTimer = some s.store.metro.sampleTimeout
  weights : t.scale.weights = weightsAfter s w
  stable : t.scale.stable = true ↔ StableWindow s.store.metro (weightsAfter s w)

/-- SCALE_FAULT has been cleared, and no other reason has changed (R21). -/
def FaultCleared (s t : State) : Prop :=
  t.lamps = { s.lamps with reasons := s.lamps.reasons.filter fun r => r != .scaleFault }

/-- The metrology with a table of points is usable (R30; notes/assumptions/6.md). -/
def UsableWith (points : List CalPoint) (s : State) : Prop :=
  2 ≤ points.length ∧ s.store.metro.max1 ≤ s.store.metro.max2 ∧ s.store.metro.d1 ≤ s.store.metro.d2
    ∧ s.store.metro.d2 % s.store.metro.d1 = 0
    ∧ (s.store.metro.max1 = s.store.metro.max2 → s.store.metro.d2 = s.store.metro.d1) ∧ s.store.metroValid = true

/-- The scale state after an accepted calibration edit (R28, R31). -/
def EditedState (points : List CalPoint) (s : State) : ScaleState → Prop := fun now =>
  match s.scale.state with
  | .off => now = .off
  | .fault => now = .fault
  | .uncalibrated => (UsableWith points s → now = .settling) ∧ (¬ UsableWith points s → now = .uncalibrated)
  | .settling => (UsableWith points s → now = .settling) ∧ (¬ UsableWith points s → now = .uncalibrated)
  | .noZero => (UsableWith points s → now = .noZero) ∧ (¬ UsableWith points s → now = .uncalibrated)
  | .ready => (UsableWith points s → now = .noZero) ∧ (¬ UsableWith points s → now = .uncalibrated)

/-- An accepted calibration edit has left `t`, with `points` as the RAM calibration table (R28). -/
structure CalEdited (points : List CalPoint) (s t : State) : Prop where
  store : t.store = { s.store with metro := { s.store.metro with points := points }, metroChanged := true }
  zero : t.scale.zero = none
  zero0 : t.scale.zero0 = none
  tare : t.scale.tare = none
  weights : t.scale.weights = []
  moving : t.scale.stable = false
  tracking : t.scale.tracking = 0
  window : t.scale.window = s.scale.window
  joined : t.scale.joined = s.scale.joined
  latest : t.scale.latest = s.scale.latest
  rearm : t.scale.rearm = s.scale.rearm
  nextRecord : t.scale.nextRecord = s.scale.nextRecord
  op : t.scale.op = opAfter s t
  waiting : t.scale.waiting = s.scale.waiting
  sampleTimer : t.scale.sampleTimer = s.scale.sampleTimer
  state : EditedState points s t.scale.state
  reason : t.scale.zeroOutOfRange = match s.scale.state with
    | .noZero | .ready => false
    | _ => s.scale.zeroOutOfRange
  lamps : t.lamps.reasons
    = if t.scale.state = s.scale.state then s.lamps.reasons else s.lamps.reasons.filter fun r => r != .scaleFault
  phases : t.lamps.phaseA = s.lamps.phaseA ∧ t.lamps.phaseB = s.lamps.phaseB

/-- The scale has entered FAULT at a REF sample or at the expiry of the sample timer (R20, R21). -/
structure FaultEntered (c : Instr) (s t : State) : Prop where
  state : t.scale.state = .fault
  window : t.scale.window = []
  joined : t.scale.joined = 0
  latest : t.scale.latest = none
  weights : t.scale.weights = []
  moving : t.scale.stable = false
  tracking : t.scale.tracking = 0
  zero : t.scale.zero = s.scale.zero
  zero0 : t.scale.zero0 = s.scale.zero0
  tare : t.scale.tare = s.scale.tare
  rearm : t.scale.rearm = s.scale.rearm
  nextRecord : t.scale.nextRecord = s.scale.nextRecord
  op : t.scale.op = none
  sampleTimer : t.scale.sampleTimer = if c = .sampleTimerExpiry then none else some s.store.metro.sampleTimeout
  raised : CallReason.scaleFault ∈ t.lamps.reasons
  others : ∀ r, r ≠ .scaleFault → (r ∈ t.lamps.reasons ↔ r ∈ s.lamps.reasons)

/-- Entries have been written, in this order, each with the next sequence, the lane clock's reading and the operator number
given; the ring keeps its newest 256 (R134, R139). -/
def Wrote (entries : List (Nat × EntryBody)) (s t : State) : Prop :=
  t.journal = (entries.foldl (fun x e => journalAs e.1 e.2 x) s).journal

/-- The items of Table 12-1 with their RAM values. -/
def itemTable (s : State) : List (Nat × Nat) :=
  let g := s.store.settings
  let m := s.store.metro
  [(1, g.laneOverride), (2, g.rateOverride), (3, g.gapLimit), (4, g.errorThreshold), (5, g.readerRate),
    (6, g.readerLimit), (7, g.slotLifetime), (8, g.grantWindow), (9, g.cardSignOn.toNat), (10, g.totalCheck.toNat),
    (11, g.closedDrawer.toNat), (12, g.roundingStep), (13, g.currencyDecimals), (14, g.pulseWidth),
    (15, g.confirmWindow), (16, g.retries), (17, g.debounce), (18, g.leftOpenLimit), (19, lampSourceCode g.lampA),
    (20, lampSourceCode g.lampB), (21, g.scaleEnable.toNat), (22, g.cardEnable.toNat), (23, g.drawerEnable.toNat),
    (24, g.printerEnable.toNat), (25, g.printWidth), (26, g.busyLimit), (27, g.captureWait), (28, g.motionWait),
    (29, g.tareAutoClear.toNat), (30, g.settingsLock.toNat), (40, m.max1), (41, m.max2), (42, m.d1), (43, m.d2),
    (44, m.filterLength), (45, m.motionWindow), (46, m.motionBand), (47, m.powerUpZero), (48, m.zeroSetting),
    (49, m.zeroTracking.toNat), (50, m.sampleTimeout)]

/-- RAM METRO has been loaded from the stored area if its check passes, else from the defaults, and the scale has been
told: filter cleared, Z, Z0 and the tare gone, usability judged (R195, R198, R24, R31, R36). -/
structure MetroLoaded (s t : State) : Prop where
  metro : t.store.metro = if metroGood s.store then s.store.storedMetro.contents else Metro.default
  valid : t.store.metroValid = metroGood s.store
  changed : t.store.metroChanged = false
  settings : t.store.settings = s.store.settings
  stored : t.store.storedMetro = s.store.storedMetro ∧ t.store.storedSettings = s.store.storedSettings
  counter : t.store.counter = s.store.counter ∧ t.store.counterCell = s.store.counterCell
  zero : t.scale.zero = none ∧ t.scale.zero0 = none
  tare : t.scale.tare = none
  filter : t.scale.window = [] ∧ t.scale.joined = 0 ∧ t.scale.latest = none ∧ t.scale.weights = []
  tracking : t.scale.tracking = 0
  kept : t.scale.rearm = s.scale.rearm ∧ t.scale.nextRecord = s.scale.nextRecord
    ∧ t.scale.sampleTimer = s.scale.sampleTimer ∧ t.scale.waiting = s.scale.waiting
  op : t.scale.op = opAfter s t
  off : s.scale.state = .off → t.scale.state = .off
  fault : s.scale.state = .fault → t.scale.state = .fault
  usable : s.scale.state ≠ .off → s.scale.state ≠ .fault → UsableWith t.store.metro.points t → t.scale.state = .settling
  unusable : s.scale.state ≠ .off → s.scale.state ≠ .fault → ¬ UsableWith t.store.metro.points t →
    t.scale.state = .uncalibrated

/-- The port has begun a status read with a cause (R187); the rest of it is as given. -/
def readBegun (cause : ReadCause) (limit : Nat) (p : Port) : Port :=
  { p with mode := .status, reading := some cause, due := none, busyTimer := some limit }

/-- What the SETTINGS items whose values changed have done at the units that act on them at once, with no SCALE request
waiting and no ticket (R22, R38, R47, R56, R63, R67, R153, R158, R189, R198). The lamp sources act last (notes/assumptions/39.md). -/
structure ItemsActed (old new : Settings) (s t : State) : Prop where
  card : let same := old.readerRate = new.readerRate ∧ old.cardEnable = new.cardEnable
    t.card = { s.card with
      assembler := if same then s.card.assembler else .hunting
      charTimer := if same then s.card.charTimer else none
      answers := if old.cardEnable = true ∧ new.cardEnable = false then [] else s.card.answers
      slot := if old.cardEnable = new.cardEnable then s.card.slot else .empty }
  scaleKept : old.scaleEnable = new.scaleEnable → t.scale = s.scale
  scaleChanged : old.scaleEnable ≠ new.scaleEnable → t.scale = { s.scale with
    state := t.scale.state, window := [], joined := 0, latest := none, weights := [], stable := false, tracking := 0
    reading := none, sampleTimer := if new.scaleEnable then some s.store.metro.sampleTimeout else none
    op := s.scale.op.bind (opEntering t.scale.state) }
  scaleOff : old.scaleEnable = true → new.scaleEnable = false → t.scale.state = .off
  scaleOn : old.scaleEnable = false → new.scaleEnable = true →
    (UsableWith s.store.metro.points s → t.scale.state = .settling)
    ∧ (¬ UsableWith s.store.metro.points s → t.scale.state = .uncalibrated)
  drawerKept : old.drawerEnable = new.drawerEnable → t.drawer = s.drawer
  drawerOff : old.drawerEnable = true → new.drawerEnable = false → t.drawer = { s.drawer with
    state := .disabled, auth := none, attempts := 0, forced := false, alarm := false
    pulseTimer := none, confirmTimer := none, leftOpenTimer := none }
  drawerOn : old.drawerEnable = false → new.drawerEnable = true → t.drawer = if s.drawer.levelClosed then
      { s.drawer with state := .closed }
    else { s.drawer with
      state := .opened, forced := false, pulseTimer := none, confirmTimer := none, leftOpenTimer := some new.leftOpenLimit }
  portKept : old.printerEnable = new.printerEnable → t.port = s.port
  portOff : old.printerEnable = true → new.printerEnable = false → s.print.order = [] →
    let offered := s.port.segment.any fun x => x.offered
    t.port = { s.port with
      mode := .compat, fifo := [], fifoError := false, current := none, reading := none, due := none, stopping := false
      busyTimer := none, pollTimer := none, stall := some .portOff
      discardPending := s.port.discardPending || s.port.stopping || offered
      segment := if offered then none
        else s.port.segment.map fun x => { x with begun := false, ahead := [], coded := [], accepted := 0 } }
  portOn : old.printerEnable = false → new.printerEnable = true → s.print.order = [] → s.port.mode = .compat →
    s.port.reading = none → s.port.current = none →
    t.port = readBegun (s.port.due.getD .other) new.busyLimit s.port
  reasons : ∀ r, r ∈ t.lamps.reasons ↔ r ∈ s.lamps.reasons
    ∧ ¬ (r = .scaleFault ∧ old.scaleEnable ≠ new.scaleEnable ∧ t.scale.state ≠ .settling)
    ∧ ¬ ((r = .drawerJammed ∨ r = .drawerLeftOpen) ∧ old.drawerEnable = true ∧ new.drawerEnable = false)
  phases : t.lamps.phaseA
      = (s.lamps.phaseA || decide (old.lampA ≠ new.lampA ∧ new.lampA = .callFlash ∧ t.lamps.reasons ≠ []))
    ∧ t.lamps.phaseB
      = (s.lamps.phaseB || decide (old.lampB ≠ new.lampB ∧ new.lampB = .callFlash ∧ t.lamps.reasons ≠ []))

/-- Start-up has run (R200): what it loads and what every unit starts with. -/
structure StartedUp (kind : ResetKind) (lr lid : Nat) (s t : State) : Prop where
  power : t.power = .running
  pins : t.pins = { s.pins with resetAsserted := false }
  straps : t.straps = ⟨lr, lid⟩
  stored : t.store.counterCell = s.store.counterCell ∧ t.store.lastReset = kind ∧ t.store.metroChanged = false
    ∧ t.store.savingMetro = none ∧ t.store.savingSettings = none ∧ t.store.putOff = false
  settings : t.store.settingsValid = (s.store.savingSettings.isNone && settingsGood s.store)
    ∧ t.store.settings = if t.store.settingsValid then s.store.storedSettings.contents else Settings.default
  metro : t.store.metroValid = (s.store.savingMetro.isNone && metroGood s.store && counterGood s.store)
    ∧ t.store.metro = if t.store.metroValid then s.store.storedMetro.contents else Metro.default
  counter : t.store.counter = if counterGood s.store then s.store.counterCell.contents else 0
  rate : t.link.rate = if t.store.settings.rateOverride ≠ 0 then t.store.settings.rateOverride else 115200 * 2 ^ lr
  lane : t.link.lane = if t.store.settings.laneOverride ≠ 0 then t.store.settings.laneOverride else lid + 1
  channels : ∀ ch, (chanOf t.link ch).unanswered = [] ∧ outbox t.link ch = [] ∧ (chanOf t.link ch).overrun = false
    ∧ (chanOf t.link ch).life = 63
  inbound : t.link.assembler = .hunting ∧ t.link.gapTimer = none ∧ t.link.errorCount = 0 ∧ t.link.degraded = false
  owed : ∀ k, owes t.link.owed k = true ∨ ∃ f, t.link.sending = some f ∧ f.origin = .notice k
  scaleState : (t.store.settings.scaleEnable = false → t.scale.state = .off)
    ∧ (t.store.settings.scaleEnable = true → UsableWith t.store.metro.points t → t.scale.state = .settling)
    ∧ (t.store.settings.scaleEnable = true → ¬ UsableWith t.store.metro.points t → t.scale.state = .uncalibrated)
  scale : t.scale.window = [] ∧ t.scale.joined = 0 ∧ t.scale.latest = none ∧ t.scale.weights = []
    ∧ t.scale.zero = none ∧ t.scale.zero0 = none ∧ t.scale.tracking = 0 ∧ t.scale.zeroOutOfRange = false
    ∧ t.scale.tare = none ∧ t.scale.rearm = true ∧ t.scale.nextRecord = 1 ∧ t.scale.op = none ∧ t.scale.waiting = []
    ∧ t.scale.sampleTimer = if t.store.settings.scaleEnable then some t.store.metro.sampleTimeout else none
  card : t.card.assembler = .hunting ∧ t.card.charTimer = none ∧ t.card.answers = [] ∧ t.card.sending = none
    ∧ t.card.slot = .empty ∧ t.card.last = none ∧ t.card.outcomeNumber = 0
  staff : t.staff.operator = none ∧ t.staff.grant = none
  ticket : t.ticket.current = none ∧ t.ticket.next = 1
  journal : t.journal = ⟨[⟨1, 0, 0, .start kind t.store.metroValid t.store.settingsValid none⟩], 2, false, none⟩
  drawer : t.drawer.state = (if t.store.settings.drawerEnable then (if s.pins.senseClosed then .closed else .opened)
      else .disabled)
    ∧ t.drawer.auth = none ∧ t.drawer.attempts = 0 ∧ t.drawer.forced = false ∧ t.drawer.alarm = false
    ∧ t.drawer.levelClosed = s.pins.senseClosed ∧ t.drawer.pulseTimer = none ∧ t.drawer.confirmTimer = none
  lamps : t.lamps.reasons = []
  print : t.print.jobs = [] ∧ t.print.order = [] ∧ t.print.next = 1
  port : t.port.fifo = [] ∧ t.port.segment = none ∧ t.port.current = none ∧ t.port.presence = .unknown
    ∧ (t.store.settings.printerEnable = true → t.port.mode = .status ∧ t.port.reading ≠ none ∧ t.port.stall = none)
    ∧ (t.store.settings.printerEnable = false → t.port.mode = .compat ∧ t.port.reading = none
      ∧ t.port.stall = some .portOff)

/-- The input levels after a command that finds the part held or without supply: the input it names takes its level, the
others stay (R200). -/
def levelsAfter (c : Instr) (p : Pins) : Pins :=
  match c with
  | .ctsChange b => { p with cts := b }
  | .calSwitchChange b => { p with calClosed := b }
  | .senseChange b => { p with senseClosed := b }
  | .printerLineChange .fault b => { p with printerFault := b }
  | .printerLineChange .paperOut b => { p with printerPaperOut := b }
  | .busyDeasserted => { p with printerBusy := false }
  | .resetLineAssert => { p with resetAsserted := true }
  | .resetLineRelease _ _ => { p with resetAsserted := false }
  | _ => p

/-- The Printer Port after LANE RESET (R192): the transfer and a stop are gone, COMPAT, line discard pending. With the port
enabled a read in progress is begun again; without one, a read that was due begins (notes/assumptions/53.md). -/
def portAfterLaneReset (enabled : Bool) (limit : Nat) (p : Port) : Port :=
  let q := { p with
    mode := .compat, fifo := [], fifoError := false, segment := none, current := none, discardPending := true
    stopping := false, reading := none, busyTimer := none }
  match enabled, p.reading, p.due with
  | true, some cause, _ => { readBegun cause limit q with due := p.due }
  | true, none, some cause => readBegun cause limit q
  | _, _, _ => q

/-- LANE RESET has been taken (R18, R199): what every unit lost and what it kept, the MGMT channel apart. -/
structure LaneWasReset (s t : State) : Prop where
  channels : ∀ ch, ch ≠ .mgmt → (chanOf t.link ch).unanswered = (chanOf s.link ch).unanswered
    ∧ outbox t.link ch = (chanOf s.link ch).unanswered.map
      fun r => ⟨r.id, r.kind, r.tag, responsePayload .aborted .none (plainFields r), none⟩
  link : t.link.errorCount = s.link.errorCount ∧ t.link.degraded = s.link.degraded
    ∧ t.link.assembler = s.link.assembler ∧ (∀ ch, (chanOf t.link ch).overrun = (chanOf s.link ch).overrun)
    ∧ LinkRest s t
  owed : ∀ k, owes s.link.owed k = true → owes t.link.owed k = true ∨ ∃ f, t.link.sending = some f ∧ f.origin = .notice k
  startup : t.link.owed.startup = true ∨ ∃ f, t.link.sending = some f ∧ f.origin = .notice .startup
  scale : t.scale = { s.scale with op := none, waiting := [], tare := none }
  ticket : t.ticket = { s.ticket with current := none }
  card : t.card = { s.card with slot := .empty }
  staff : t.staff = { s.staff with grant := none }
  jobs : t.print.jobs = [] ∧ t.print.next = s.print.next
    ∧ t.print.order = s.print.order.filter fun n => s.print.jobs.all fun j => j.number != n
  auth : t.drawer.auth = none ∧ t.drawer.attempts = if s.drawer.auth = none then s.drawer.attempts else 0
  drawer : t.drawer.state = match s.drawer.auth with
    | none => s.drawer.state
    | some _ => if s.drawer.levelClosed then .closed else .opened
  supervisor : CallReason.supervisorNeeded ∉ t.lamps.reasons
  reasons : ∀ r, r ≠ .supervisorNeeded → r ≠ .drawerJammed → (r ∈ t.lamps.reasons ↔ r ∈ s.lamps.reasons)
  port : t.port = portAfterLaneReset s.store.settings.printerEnable s.store.settings.busyLimit s.port
  store : t.store = { s.store with lastReset := .laneReset }
  journal : Wrote
    ((match s.ticket.current with
      | none => []
      | some k => [(k.operator, .ticketAbandoned k.number k.total k.lines.length .laneReset none)])
    ++ (match s.drawer.auth with
      | none => []
      | some a => [(operatorNumber s, .drawerAuthDropped .laneReset a.cause a.number)])
    ++ [(operatorNumber s, .start .laneReset s.store.metroValid s.store.settingsValid none)]) s t

/-- The XOR of bytes (R68). -/
def xorOf (bs : List Byte) : Byte := bs.foldl (· ^^^ ·) 0x00#8

/-- The characters of a buffer form a record with this source, these account digits and this expiry (R68). -/
structure CardForm (chars : List Byte) (source : CardSource) (digits : List Byte) (expiry : Option (List Byte)) : Prop where
  form : chars = (match source with
      | .stripe => 0x53#8
      | .contactless => 0x43#8) :: (digits ++ match expiry with
      | none => []
      | some e => 0x3D#8 :: e)
  count : 12 ≤ digits.length ∧ digits.length ≤ 19
  digits : ∀ b ∈ digits, 0x30 ≤ b.toNat ∧ b.toNat ≤ 0x39
  month : ∀ e, expiry = some e → e.length = 4 ∧ (∀ b ∈ e, 0x30 ≤ b.toNat ∧ b.toNat ≤ 0x39)
    ∧ 1 ≤ digitsValue (e.drop 2) ∧ digitsValue (e.drop 2) ≤ 12

/-- An entry contains the number of the first eight account digits (R69, R70). -/
def EntryHas (x : RangeEntry) (digits : List Byte) : Prop :=
  x.low ≤ digitsValue (digits.take 8) ∧ digitsValue (digits.take 8) ≤ x.high

/-- A masked form of account digits with `k` leading and `m` trailing digits kept (R73). Of no more than `k + m` digits it
shows each or a '*' in its place, and at least one '*' (notes/assumptions/50.md). -/
structure MaskOf (k m : Nat) (digits masked : List Byte) : Prop where
  length : masked.length = digits.length
  kept : k + m < digits.length → ∀ i, i < digits.length →
    masked[i]? = if i < k ∨ digits.length ≤ i + m then digits[i]? else some 0x2A#8
  places : ∀ i, i < digits.length → masked[i]? = digits[i]? ∨ masked[i]? = some 0x2A#8
  starred : 0x2A#8 ∈ masked

/-- The entry a record's digits fall in (R70). -/
def EntryOf (s : State) (digits : List Byte) (x : RangeEntry) : Prop :=
  ∃ before after, s.store.settings.ranges = before ++ x :: after ∧ (∀ y ∈ before, ¬ EntryHas y digits)
    ∧ EntryHas x digits

/-- The sum of R71: from the rightmost digit as position 1, the digits in even positions are doubled, less 9 above 9. -/
def luhnSum (digits : List Byte) : Nat :=
  (digits.reverse.mapIdx fun i b =>
    let v := b.toNat - 0x30
    if i % 2 = 1 then (if 9 < 2 * v then 2 * v - 9 else 2 * v) else v).sum

/-- A whole record reaches the class action of its entry: the port is on, the assembler hunts, and every test of the entry
passes (R68 to R72). -/
structure PassesTests (s : State) (chars : List Byte) (source : CardSource) (digits : List Byte)
    (expiry : Option (List Byte)) (x : RangeEntry) : Prop where
  running : s.power = .running
  port : s.store.settings.cardEnable = true
  hunting : s.card.assembler = .hunting
  form : CardForm chars source digits expiry
  entry : EntryOf s digits x
  length : x.minLength ≤ digits.length ∧ digits.length ≤ x.maxLength
  check : x.checkDigit = true → luhnSum digits % 10 = 0
  expiry : x.expiry = true → ∃ e, expiry = some e ∧ ∀ now, s.journal.clock = some now → expiredAt now e = false

/-- An outcome that results from a record is decided: its number, the last-outcome record, and the answer queued behind the
others, which starts when the line is free (R66, R77). -/
structure OutcomeRecorded (o : CardOutcome) (cardClass : Option CardClass) (source : Option CardSource)
    (masked : Option (List Byte)) (s t : State) : Prop where
  number : t.card.outcomeNumber = if s.card.outcomeNumber = 255 then 1 else s.card.outcomeNumber + 1
  last : t.card.last = some ⟨t.card.outcomeNumber, o, cardClass, source, masked⟩
  answer :
    let queue := s.card.answers ++ [if o ∈ [CardOutcome.presented, .attached, .signedOn, .signedOff, .granted] then .ack
      else .nak]
    match s.card.sending with
    | some x => t.card.sending = some x ∧ t.card.answers = queue
    | none => t.card.sending = queue.head?.map (fun a => ⟨a, s.store.settings.readerRate⟩) ∧ t.card.answers = queue.tail

/-! ## Tickets -/

/-- Nothing is printed, and the printing side has nothing to do at once. -/
structure NoPrinting (s : State) : Prop where
  jobs : s.print.jobs = []
  order : s.print.order = []
  quiet : PrintQuiet s

/-- R126: no job bound to the ticket number has not ended. -/
def JobsMet (s : State) (number : Nat) : Prop := ∀ j ∈ s.print.jobs, j.ticket ≠ some number

/-- R126: the drawer port is disabled, or the drawer is CLOSED without this ticket's authorization. -/
def DrawerMet (s : State) (number : Nat) : Prop :=
  s.store.settings.drawerEnable = false ∨ s.drawer.auth ≠ some ⟨.cash, number⟩ ∧ s.drawer.state = .closed

/-- The sum of the tenders that are, or are not, of kind CASH. -/
def paid (cash : Bool) (ts : List Tender) : Nat :=
  ((ts.filter fun x => (x.kind == .cash) == cash).map fun x => x.amount).sum

/-- The fields TICKET_CLOSED carries (R128). -/
def closingOf (k : Ticket) : EntryBody :=
  .ticketClosed ⟨k.number, k.total, k.rounding, k.change, k.tenders.length, paid true k.tenders, paid false k.tenders,
    k.lines.length, (k.lines.filter isWeighed).length, k.loyalty.isSome, k.receiptWaived, k.forced⟩

/-- The ticket has closed, its entry written behind those given (R128). -/
structure TicketClosed (k : Ticket) (entries : List (Nat × EntryBody)) (s t : State) : Prop where
  ticket : t.ticket = { s.ticket with current := none }
  card : t.card = { s.card with slot := .empty }
  journal : Wrote (entries ++ [(k.operator, closingOf k)]) s t

/-- Ticket and slot are as they were, the journal holds the entries given. -/
structure TicketKept (entries : List (Nat × EntryBody)) (s t : State) : Prop where
  ticket : t.ticket = s.ticket
  card : t.card = s.card
  journal : Wrote entries s t

/-- The settled ticket, as it stood before the evaluation, has been evaluated on the drawer and the jobs of `t`: it has closed
if all three conditions are met, else their results are stored (R126 to R128). -/
def Judged (k : Ticket) (entries : List (Nat × EntryBody)) (s t : State) : Prop :=
  let receipt := k.receiptLatch = true ∨ k.receiptWaived = true
  let all := receipt ∧ JobsMet t k.number ∧ DrawerMet t k.number
  (all → TicketClosed k entries s t)
  ∧ (¬ all → t.card = s.card ∧ Wrote entries s t ∧ ∃ r j d : Bool, (r = true ↔ receipt) ∧ (j = true ↔ JobsMet t k.number)
    ∧ (d = true ↔ DrawerMet t k.number)
    ∧ t.ticket = { s.ticket with current := some { k with receiptMet := r, jobsMet := j, drawerMet := d } })

/-- The Drawer Unit's report has been taken: a settled ticket is evaluated, any other is left (R127, R155). -/
def DrawerReported (entries : List (Nat × EntryBody)) (s t : State) : Prop :=
  match s.ticket.current with
  | none => TicketKept entries s t
  | some k => (k.phase = .settled → Judged k entries s t) ∧ (k.phase ≠ .settled → TicketKept entries s t)

/-- The Print Unit's report about a binding has been taken: a settled ticket with that number is evaluated, with its latch set
if `printed` says so, any other is left (R126, R127, R175). -/
def JobReported (binding : Option Nat) (printed : Bool) (s t : State) : Prop :=
  match s.ticket.current with
  | none => TicketKept [] s t
  | some k =>
    (k.phase = .settled ∧ binding = some k.number → Judged { k with receiptLatch := k.receiptLatch || printed } [] s t)
    ∧ (¬ (k.phase = .settled ∧ binding = some k.number) → TicketKept [] s t)

/-- A reason has been raised and no other has changed (R157). -/
def Raised (r : CallReason) (s t : State) : Prop :=
  r ∈ t.lamps.reasons ∧ ∀ x, x ≠ r → (x ∈ t.lamps.reasons ↔ x ∈ s.lamps.reasons)

/-! ## Printing -/

/-- The stored length of a segment (Table 10-2). -/
def lengthOf : Segment → Nat
  | .text _ chars => 3 + chars.length
  | .raster _ rows => 3 + (rows.map fun r => 1 + r.length).sum
  | .feed _ => 2
  | .cut _ => 2
  | .insert _ _ => 3
  | .call _ => 2

/-- The blocks a list of segments takes (R165, R176). -/
def blocksOf (gs : List Segment) : Nat := (gs.map fun g => (lengthOf g + 59) / 60).sum

/-- The job number after `n`, from 255 to 1 (R160). -/
def jobNumberAfter (n : Nat) : Nat := if n = 255 then 1 else n + 1

/-- The number `i` places after `n` (R160). -/
def jobNumberLater : Nat → Nat → Nat
  | 0, n => n
  | i + 1, n => jobNumberLater i (jobNumberAfter n)

/-- A job is the one with its number, between the jobs before and behind it in the queue (R160). -/
structure JobIs (s : State) (before : List Job) (j : Job) (after : List Job) : Prop where
  jobs : s.print.jobs = before ++ j :: after
  alone : ∀ x ∈ before ++ after, x.number ≠ j.number

/-- The job is the printing job in a state, the first of the print order list (R162). -/
structure Printing (s : State) (before : List Job) (j : Job) (after : List Job) (state : JobState) : Prop where
  job : JobIs s before j after
  first : s.print.order.head? = some j.number
  state : j.state = state

/-- The port is enabled in COMPAT, with no stall held, no read made or due and no stop in progress: bytes can move (R180, R182). -/
structure PortOpen (s : State) : Prop where
  enabled : s.store.settings.printerEnable = true
  mode : s.port.mode = .compat
  stall : s.port.stall = none
  reading : s.port.reading = none
  due : s.port.due = none
  stopping : s.port.stopping = false

/-- The printer bytes of the segments that are sent in COMPAT alone (R182, Table 1-11): TEXT cut to the print width, or to half
of it in DOUBLE, FEED and CUT. -/
def compatBytes (width : Nat) : Segment → Option (List Byte)
  | .text style chars => some ([0x1C#8, 0x53#8] ++ u8 (textStyleCode style)
      ++ chars.take (if style = .double then width / 2 else width) ++ [0x0A#8])
  | .feed n => some ([0x1C#8, 0x46#8] ++ u8 n)
  | .cut kind => some ([0x1C#8, 0x43#8] ++ u8 (cutKindCode kind))
  | _ => none

/-- The stall reason a status byte gives, by the order of R187. -/
def stallOf (status : Byte) (busy : Bool) (byTimer : Bool) : Option Stall :=
  if status.getLsbD 0 then some .paperOut
  else if status.getLsbD 2 then some .coverOpen
  else if status.getLsbD 3 then some .headHot
  else if status.getLsbD 4 then some .printerFault
  else if busy && byTimer then some .notResponding
  else none

/-- The Printer Port after an answer that judges a stall reason, a stop and the transfer apart (R187): the read has ended, the
presence, status and capability are taken, and the poll timer runs while the reason is held (R184). -/
def judgedPort (status : Byte) (stall : Option Stall) (p : Port) : Port := { p with
  mode := .compat, fifo := [], fifoError := false, reading := none, busyTimer := none
  presence := .present
  capable := status.getLsbD 5
  status := ⟨status.getLsbD 0, status.getLsbD 1, status.getLsbD 2, status.getLsbD 3, status.getLsbD 4, status.getLsbD 5⟩
  stall := stall
  pollTimer := if stall = none then none else some 2000 }

/-- The certified text of a WEIGHED line, two lines of the print width (R172). -/
def certifiedLines (w d : Nat) (l : Line) (p : WeightPart) : List (List Byte) :=
  [ spread w (decimal l.item ++ [0x20#8] ++ amountText 3 p.net ++ ascii [' ', 'k', 'g']) (ascii ['#'] ++ decimal p.record)
  , spread w (ascii ['@', ' '] ++ amountText d p.price
      ++ (if p.base = .perKg then ascii ['/', 'k', 'g'] else ascii ['/', '1', '0', '0', 'g'])) (amountText d l.amount) ]

/-- The lines an insert of a job bound to the ticket renders; a final field renders once the ticket is SETTLED
(R171 to R173). -/
def InsertText (s : State) (k : Ticket) (field : InsertField) (n : Nat) (ls : List (List Byte)) : Prop :=
  let w := s.store.settings.printWidth
  let d := s.store.settings.currencyDecimals
  match field with
  | .ticketNumber =>
    ls = [ascii ['T', 'I', 'C', 'K', 'E', 'T', ' '] ++ decimal s.link.lane ++ ascii ['-'] ++ decimal k.number]
  | .operator => ls = [ascii ['O', 'P', 'E', 'R', 'A', 'T', 'O', 'R', ' '] ++ decimal k.operator]
  | .loyalty => ls = match k.loyalty with
    | some m => [ascii ['L', 'O', 'Y', 'A', 'L', 'T', 'Y', ' '] ++ m]
    | none => []
  | .calCount => ls = [ascii ['C', 'A', 'L', ' '] ++ decimal s.store.counter]
  | .line => ∃ before l p after, k.lines = before ++ l :: after ∧ (∀ x ∈ before, x.number ≠ n) ∧ l.number = n
    ∧ l.body = .weighed p ∧ ls = certifiedLines w d l p
  | .allWeighed => ls = (k.lines.map fun l => match l.body with
    | .weighed p => if l.voided then [] else certifiedLines w d l p
    | _ => []).flatten
  | .total => k.phase = .settled ∧ ls = [spread w (ascii ['T', 'O', 'T', 'A', 'L']) (amountText d k.total)]
  | .tenders => k.phase = .settled ∧ ls = (k.tenders.map fun x =>
      spread w ((match x.kind with
        | .cash => ascii ['C', 'A', 'S', 'H']
        | .card => ascii ['C', 'A', 'R', 'D']
        | .gift => ascii ['G', 'I', 'F', 'T']
        | .other => ascii ['O', 'T', 'H', 'E', 'R'])
        ++ (x.reference.map fun r => 0x20#8 :: r).getD []) (amountText d x.amount) :: x.masked.toList).flatten
  | .change => k.phase = .settled ∧ ls = spread w (ascii ['C', 'H', 'A', 'N', 'G', 'E']) (amountText d k.change)
    :: if k.rounding = 0 then []
      else [spread w (ascii ['R', 'O', 'U', 'N', 'D', 'I', 'N', 'G']) (amountText d k.rounding)]

/-- The printer bytes of the lines of an insert, each a NORMAL line (R171, R182). -/
def insertBytes (width : Nat) (ls : List (List Byte)) : List Byte :=
  (ls.map fun l => [0x1C#8, 0x53#8] ++ u8 0 ++ l.take width ++ [0x0A#8]).flatten

/-- A final field of R173. -/
def isFinal : InsertField → Bool
  | .total | .tenders | .change => true
  | .ticketNumber | .operator | .loyalty | .calCount | .line | .allWeighed => false

/-- The bytes of a segment the port begins with its capability as it stands: what is sent in COMPAT, first byte first, and
what follows in BLOCK (R182, Table 1-11). -/
def BeginsAs (width : Nat) (capable : Bool) (g : Segment) (content : Handed) (first : Byte) (ahead : List Byte)
    (coded : List PortByte) : Prop :=
  match g with
  | .raster w rows => content = .raster w rows
    ∧ (capable = true → first :: ahead = [0x1C#8, 0x42#8] ++ u8 w ++ u8 rows.length
      ∧ coded = (rows.map codedRow).flatten)
    ∧ (capable = false → coded = []
      ∧ first :: ahead = (rows.map fun row => [0x1C#8, 0x52#8] ++ u8 w ++ (expandRow row).getD []).flatten)
  | _ => compatBytes width g = some (first :: ahead) ∧ content = .bytes (first :: ahead) ∧ coded = []

/-- The port has begun the segment with these bytes and offers its first, or, with line discard pending, the segment waits
behind the discard, which is offered (R180, R182). -/
def beginsAt (limit : Nat) (content : Handed) (first : Byte) (ahead : List Byte) (coded : List PortByte) (p : Port) : Port :=
  if p.discardPending then { p with
    segment := some ⟨content, false, [], [], false, 0⟩
    current := some ⟨⟨0x18#8, false⟩, .discard, true⟩
    busyTimer := some limit }
  else { p with
    segment := some ⟨content, true, ahead, coded, true, 0⟩
    current := some ⟨⟨first, false⟩, .segment, true⟩
    busyTimer := some limit }

/-- What comes of it when the printing job's position reaches a segment (R167). TEXT, RASTER, FEED and CUT are handed to the
port, which begins them by its capability (R182). An INSERT of a bound job hands its lines, with PRINTED_TOTAL set by TOTAL;
one that renders nothing is passed, an absent or not WEIGHED line with MISSING_LINE set; a final field of a ticket not SETTLED
holds the job (R171 to R173); in a FREE job an INSERT is passed. A CALL pushes its return position and begins the first
segment of the fragment as it stands, here one the port begins; an empty fragment is passed with MISSING_FRAGMENT set
(R169, R170). -/
def Reaches (s : State) (capable : Bool) (j : Job) (g : Segment)
    (begins : Job → Handed → Byte → List Byte → List PortByte → Prop) (holds passes : Job → Prop) : Prop :=
  let width := s.store.settings.printWidth
  match g with
  | .insert field n => (j.ticket = none → passes j)
    ∧ ∀ binding k, j.ticket = some binding → s.ticket.current = some k →
      (isFinal field = true → k.phase ≠ .settled → holds j)
      ∧ (field = .line → (∀ l ∈ k.lines, l.number = n → ∀ p, l.body ≠ .weighed p) → passes { j with missingLine := true })
      ∧ ∀ ls, InsertText s k field n ls → (ls = [] → passes j)
        ∧ ∀ first ahead, insertBytes width ls = first :: ahead →
          begins { j with printedTotal := j.printedTotal || field == .total } (.bytes (first :: ahead)) first ahead []
  | .call n => ∀ older content newer, s.store.settings.fragments = older ++ content :: newer → older.length + 1 = n →
    (content = [] → passes { j with missingFragment := true })
    ∧ ∀ g' rest handed first ahead coded, content = g' :: rest → j.stack.length < 4 →
      BeginsAs width capable g' handed first ahead coded →
      begins { j with position := .fragment n 0 content, stack := nextPosition j.position :: j.stack }
        handed first ahead coded
  | _ => ∀ handed first ahead coded, BeginsAs width capable g handed first ahead coded → begins j handed first ahead coded

/-! ## Invariants -/

/-- R175: the SUBMIT a job in the queue answers at its end is a request of PRINT. -/
def ReplyInv (s : State) : Prop := ∀ j ∈ s.print.jobs, ∀ r, j.reply = some r → r.channel = .print

/-- R59: the admission of a WEIGH in flight or waiting holds the three fields its responses echo. -/
def EchoInv (s : State) : Prop :=
  (∀ who f timer blocking, s.scale.op = some (.weigh who f timer blocking) →
      who.echo = some ⟨f.item, f.price, priceBaseCode f.base⟩)
    ∧ ∀ q ∈ s.scale.waiting, ∀ f, q.request = some (.weigh f) → q.who.echo = some ⟨f.item, f.price, priceBaseCode f.base⟩

/-- R200: the part does not run while the RESET line is asserted. -/
def ResetInv (s : State) : Prop := s.power = .running → s.pins.resetAsserted = false


/-- R101: the ticket total is the sum of the amounts of the lines, within its limit, over at most 99 lines. -/
def ticketHolds (t : Ticket) : Prop :=
  t.total = (t.lines.map (·.amount)).sum ∧ -9999999999 ≤ t.total ∧ t.total ≤ 9999999999 ∧ t.lines.length ≤ 99

/-- R101 for the state: with no ticket there is nothing to hold. -/
def TotalInv (s : State) : Prop := ∀ t, s.ticket.current = some t → ticketHolds t

/-- R145: the states of the drawer that hold an authorization. -/
def holdsAuth : DrawerState → Bool
  | .unlatching | .confirming | .jammed => true
  | .closed | .opened | .disabled => false

/-- R145, R153: an authorization is held exactly in UNLATCHING, CONFIRMING and JAMMED, attempts is 0 without one, and the
drawer is DISABLED exactly while its port is disabled. -/
def DrawerInv (s : State) : Prop :=
  s.drawer.auth.isSome = holdsAuth s.drawer.state ∧ (s.drawer.auth = none → s.drawer.attempts = 0)
    ∧ (s.drawer.state = .disabled ↔ s.store.settings.drawerEnable = false)

/-- The sequence number after `n` (R134). -/
def sequenceAfter (n : Nat) : Nat := if n = 4294967295 then 1 else n + 1

/-- R134: the ring holds at most 256 entries, with consecutive sequence numbers ending just before the next sequence, all of
them in 1..4,294,967,295. -/
def RingInv (s : State) : Prop :=
  s.journal.ring.length ≤ 256 ∧ 1 ≤ s.journal.next ∧ s.journal.next ≤ 4294967295
    ∧ (∀ e ∈ s.journal.ring, 1 ≤ e.sequence ∧ e.sequence ≤ 4294967295)
    ∧ (∀ older e, s.journal.ring = older ++ [e] → sequenceAfter e.sequence = s.journal.next)
    ∧ ∀ i e e', s.journal.ring[i]? = some e → s.journal.ring[i + 1]? = some e' → e'.sequence = sequenceAfter e.sequence

/-- R10, R16: every channel has at most four unanswered requests and a life value in 1..63, and a frame in transmission
carries a life value in 1..63. -/
def LinkInv (s : State) : Prop :=
  (∀ ch, (chanOf s.link ch).unanswered.length ≤ 4 ∧ 1 ≤ (chanOf s.link ch).life ∧ (chanOf s.link ch).life ≤ 63)
    ∧ ∀ f, s.link.sending = some f → 1 ≤ f.life ∧ f.life ≤ 63

/-- R193: the counter is what its cell holds when the cell's check passes, else 0. -/
def CounterInv (s : State) : Prop :=
  s.store.counter = if counterGood s.store then s.store.counterCell.contents else 0

/-- R15: with the part running, the transmitter free and CTS asserted, no channel has anything to send. -/
def ArbiterInv (s : State) : Prop :=
  s.power = .running → s.link.sending = none → s.pins.cts = true → ∀ ch, hasToSend s.link ch = false

/-- R21: SCALE_FAULT is raised in FAULT, and outside FAULT it is raised in SETTLING alone. -/
def ScaleFaultInv (s : State) : Prop :=
  (s.scale.state = .fault → CallReason.scaleFault ∈ s.lamps.reasons)
    ∧ (CallReason.scaleFault ∈ s.lamps.reasons → s.scale.state = .fault ∨ s.scale.state = .settling)

/-- The remaining time a notice reports that starts in a command in which its timer did not start (R84, R95): at least 1, and
no more than was reported last (notes/assumptions/2.md). -/
def ReportsLeft (s : State) (k : NoticeKind) (n : Nat) : Prop :=
  match k with
  | .cardState => 0 < s.draws.slot.left → 1 ≤ n ∧ n ≤ s.draws.slot.left
  | .operatorState => 0 < s.draws.grant.left → 1 ≤ n ∧ n ≤ s.draws.grant.left
  | _ => True

/-- A run is safe while each step answers a next state. -/
def Safe (s : State) : Prop := ∃ t, step s = .next t

end Sys2Proof.Machine
end

