-- ==== Sys2Proof/Certificates/Slice0/Obligations.lean ====
section
/-! DEFINITION. The statements for the provers. Each docstring names the rules of spec/ a statement formalises; a
statement that rests on a choice of the model names the log entry. -/

open Sys2Proof Sys2Proof.Machine

/-! ## Steps, encodings and the Link Interface -/

/-- A step takes the command at the front of the queue and is that command's effect on the state with the queue's rest; on
an empty queue it answers the same state (the model's choice, notes/assumptions/5.md). -/
def Obligations.StepRunsFrontCommand : Prop :=
  (∀ c s, step (s.setPending (c :: s.pending)) = exec c s) ∧ ∀ s, s.pending = [] → step s = .next s

/-- Every command, whatever its operands and whatever the state, answers a next state and leaves the queue of waiting
commands alone. That no command ends in a fault or a refusal is the model's reading (notes/assumptions/46.md), and so is what
a command does in a state in which its event cannot happen (notes/assumptions/18.md, notes/assumptions/43.md). -/
def Obligations.EveryCommandAnswersNext : Prop := ∀ c s, ∃ t, exec c s = .next t ∧ t.pending = s.pending

/-- R13: the payload of a request whose fields fit their widths decodes, by the reader of its channel and kind, as that
request, with every field at every value its width admits. -/
def Obligations.RequestPayloadReadsBack : Prop :=
  ∀ r : Request, r.fits = true →
    ∃ read, payloadReader (requestChannel r) (requestKind r) = some read ∧ readWhole read (writeRequest r) = some r

/-- R4, R5, R8, R11: the bytes of a request's frame, received in HUNTING, act exactly as the request's row; the life byte is
ignored. A frame of WEIGH acts as its row with the same bytes, whatever they are; one of another kind whose payload does not
decode acts as that kind's row without fields. That the row stands for the whole frame is the model's choice
(notes/assumptions/7.md). -/
def Obligations.LaneFrameActsAsItsRequest : Prop :=
  ∀ (r : Request) (tag life : Nat) (s : State), tag < 256 → s.link.assembler = .hunting → s.link.gapTimer = none →
    let frame (payload : List Byte) : Instr :=
      .laneFrame (laneFrameBytes s.link.lane (channelNumber (requestChannel r)) (requestKind r) tag life payload)
    (r.fits = true → (writeRequest r).length ≤ 1024 → exec (frame (writeRequest r)) s = exec (commandOf tag r) s)
    ∧ ∀ payload, payload.length ≤ 1024 →
      ((∃ f, r = .weigh f) → exec (frame payload) s = exec (.weigh tag (.bytes payload)) s)
      ∧ ∀ read, (∀ f, r ≠ .weigh f) → payloadReader (requestChannel r) (requestKind r) = some read →
        readWhole read payload = none → exec (frame payload) s = exec (malformedOf tag r) s

/-- R5, R7, R9: when the sixth header byte arrives and the declared length is above 1,024, the frame is discarded, the
inbound error count is advanced and the assembler is in HUNTING. The first clause starts in HEADER with some bytes kept,
the second in HUNTING at the start byte. The third: a byte examined in HUNTING starts a frame if it is 0xA5, and is
dropped uncounted otherwise. That the row carries its bytes is the model's reading (notes/assumptions/47.md). -/
def Obligations.OverlengthFrameIsDiscarded : Prop :=
  (∀ (s : State) (lane : Nat) (kept bytes : List Byte), s.power = .running → s.link.assembler = .header lane kept →
    bytes ≠ [] → (kept ++ bytes).length = 6 → 1024 < byteAt (kept ++ bytes) 4 + 256 * byteAt (kept ++ bytes) 5 →
    ∃ t, exec (.frameOverlength bytes) s = .next t ∧ Discards s t)
  ∧ (∀ (s : State) (header : List Byte), s.power = .running → s.link.assembler = .hunting → header.length = 6 →
    1024 < byteAt header 4 + 256 * byteAt header 5 →
    ∃ t, exec (.frameOverlength (0xA5#8 :: header)) s = .next t ∧ Discards s t)
  ∧ ∀ (s : State) (b : Byte), s.power = .running → s.link.assembler = .hunting →
    ∃ t, exec (.laneFrame [b]) s = .next t ∧ t.link.errorCount = s.link.errorCount ∧ Keeps [] s t
      ∧ t.link.assembler = (if b = 0xA5#8 then .header s.link.lane [] else .hunting)

/-- R6, R8, R9: a complete frame whose check fails, or whose channel byte is 7 or above, and a partial frame at the expiry
of the gap timer, are discarded and counted. -/
def Obligations.UnacceptedFrameIsDiscarded : Prop :=
  (∀ (s : State) (header payload check : List Byte), s.power = .running → s.link.assembler = .hunting →
    header.length = 6 → payload.length ≤ 1024 → byteAt header 4 + 256 * byteAt header 5 = payload.length →
    check.length = 2 →
    (check ≠ checkHighFirst (frameCheck s.link.lane header payload) ∨ 7 ≤ byteAt header 0) →
    ∃ t, exec (.laneFrame (0xA5#8 :: (header ++ payload ++ check))) s = .next t ∧ Discards s t)
  ∧ ∀ s : State, s.power = .running → s.link.gapTimer ≠ none →
    ∃ t, exec .gapTimerExpiry s = .next t ∧ Discards s t

/-- R11: an admitted request of a kind that is not a request kind of its channel is answered UNKNOWN_KIND, whatever its
payload; on CARD every request is. R10: a request that reaches admission on a channel with four unanswered requests is
discarded: the overrun flag is set and no response is made. R11, R13: a request with tag 0, one whose payload is malformed
in form, and one with a field outside the range its chapter states, is answered BAD_FIELD and changes no state. A SCALE
request is judged when its turn comes (R44), so those clauses ask for its turn. A WEIGH keeps what any other answer to it
would echo (R59) in its admission record: of a malformed payload each of item code, U and base that it holds. That BAD_FIELD for
tag 0 echoes nothing (notes/assumptions/32.md), and the free value kept of a field that cannot be read
(notes/assumptions/54.md), are the model's reading; the ranges are those its definition requestInRange takes from the
chapters. -/
def Obligations.UnusableRequestIsRefused : Prop :=
  (∀ (s : State) (ch : Channel) (kind tag life : Nat) (payload : List Byte), Admits s ch tag → tag < 256 → kind < 256 →
    (kind = 0 ∨ requestKinds ch < kind) → payload.length ≤ 1024 → s.link.assembler = .hunting →
    s.link.gapTimer = none →
    Completes (.laneFrame (laneFrameBytes s.link.lane (channelNumber ch) kind tag life payload)) s
      (asker s ch kind tag none) (responsePayload .unknownKind .none []) none [] fun _ => True)
  ∧ (∀ (s : State) (r : Request) (tag : Nat), s.power = .running →
    4 ≤ (chanOf s.link (requestChannel r)).unanswered.length →
    ∃ t, exec (commandOf tag r) s = .next t ∧ (chanOf t.link (requestChannel r)).overrun = true
      ∧ (∀ ch, ch ≠ requestChannel r → (chanOf t.link ch).overrun = (chanOf s.link ch).overrun)
      ∧ t.link.errorCount = s.link.errorCount ∧ t.link.degraded = s.link.degraded ∧ LinkRest s t
      ∧ (∀ ch, MailSame ch s t) ∧ Keeps [] s t)
  ∧ ((∀ (s : State) (r : Request), Admits s (requestChannel r) 1 →
    Completes (commandOf 0 r) s (asker s (requestChannel r) (requestKind r) 0 (weighEcho r))
      (responsePayload .badField .none []) none [] fun _ => True)
  ∧ ∀ (s : State) (r : Request) (tag : Nat), Admits s (requestChannel r) tag →
    (requestChannel r = .scale → s.scale.op = none ∧ s.scale.waiting = []) →
    Completes (malformedOf tag r) s (asker s (requestChannel r) (requestKind r) tag
      (requestEcho s.link.nextId (requestChannel r) (requestKind r) [] none))
      (responsePayload .badField .none []) none [] (fun _ => True)
    ∧ (requestInRange r = false →
      Completes (commandOf tag r) s (asker s (requestChannel r) (requestKind r) tag (weighEcho r))
        (responsePayload .badField .none []) none [] fun _ => True))
  ∧ ∀ (s : State) (tag : Nat) (payload : List Byte), Admits s .scale tag → s.scale.op = none → s.scale.waiting = [] →
    readWhole readWeigh payload = none →
    ∃ e, EchoesPayload payload e
      ∧ Completes (.weigh tag (.bytes payload)) s (asker s .scale 5 tag (some e)) (responsePayload .badField .none []) none []
        fun _ => True

/-- R10, R16: when the last check byte of a frame has been sent, the channel's life value becomes the value the frame
carried; the end of a response makes its request unanswered no more and puts its rate and lane ID in force (R1, R3). That
the source that LINK_STATUS reports changes at the same moment is the model's reading (notes/assumptions/31.md). -/
def Obligations.FrameEndAdvancesLife : Prop :=
  ∀ (s : State) (f : OutFrame), s.power = .running → s.link.sending = some f →
    ∃ t, exec .frameSent s = .next t ∧ Keeps [] s t ∧ (chanOf t.link f.channel).life = f.life
      ∧ (∀ ch, ch ≠ f.channel → (chanOf t.link ch).life = (chanOf s.link ch).life)
      ∧ (∀ ch, (chanOf t.link ch).overrun = (chanOf s.link ch).overrun) ∧ t.link.errorCount = s.link.errorCount
      ∧ t.link.degraded = s.link.degraded ∧ (∀ ch, ch ≠ f.channel → MailSame ch s t)
      ∧ match f.origin with
        | .notice _ => MailSame f.channel s t ∧ t.link.rate = s.link.rate ∧ t.link.lane = s.link.lane
            ∧ t.link.rateOverride = s.link.rateOverride ∧ t.link.laneOverride = s.link.laneOverride
            ∧ t.link.assembler = s.link.assembler ∧ t.link.gapTimer = s.link.gapTimer
        | .response id change =>
          (chanOf t.link f.channel).unanswered = (chanOf s.link f.channel).unanswered.filter (fun r => r.id != id)
            ∧ outbox s.link f.channel = ⟨id, f.kind, f.tag, f.payload, change⟩ :: outbox t.link f.channel
            ∧ match change with
              | none => t.link.rate = s.link.rate ∧ t.link.lane = s.link.lane
                  ∧ t.link.rateOverride = s.link.rateOverride ∧ t.link.laneOverride = s.link.laneOverride
                  ∧ t.link.assembler = s.link.assembler ∧ t.link.gapTimer = s.link.gapTimer
              | some c => t.link.rate = c.rate.getD s.link.rate ∧ t.link.lane = c.lane.getD s.link.lane
                  ∧ t.link.rateOverride = c.rateOverride ∧ t.link.laneOverride = c.laneOverride
                  ∧ t.link.assembler = if c.rate.isSome then .hunting else s.link.assembler

/-- R2, R15, R16: when CTS becomes asserted with the transmitter free, the arbiter starts at once the oldest response, else
the first owed notice kind, of the first channel in priority order with something to send; its life field is the channel's
value plus one, and 1 after 63. R14: a notice carries the snapshot of that moment; the remaining time in it is a free value
no greater than the one reported last (R84, R95; notes/assumptions/2.md). While CTS is deasserted the arbiter starts nothing,
whatever command is taken. -/
def Obligations.CtsAssertionStartsFirstFrame : Prop :=
  (∀ s : State, s.power = .running → s.link.sending = none → s.pins.cts = false →
    ∃ t, exec (.ctsChange true) s = .next t ∧ t.pins = { s.pins with cts := true } ∧ Keeps [.pins] s t
      ∧ ((∀ ch, hasToSend s.link ch = false) → t.link = s.link)
      ∧ ∀ before ch after,
        [Channel.mgmt, .drawer, .ticket, .scale, .pay, .card, .print] = before ++ ch :: after →
        (∀ c ∈ before, hasToSend s.link c = false) → hasToSend s.link ch = true →
        ∃ f, t.link.sending = some f ∧ f.channel = ch ∧ f.lane = s.link.lane
          ∧ f.life = (if (chanOf s.link ch).life = 63 then 1 else (chanOf s.link ch).life + 1)
          ∧ (∀ c, (chanOf t.link c).life = (chanOf s.link c).life)
          ∧ match (chanOf s.link ch).responses with
            | a :: rest => f.kind = a.kind ∧ f.tag = a.tag ∧ f.payload = a.payload
                ∧ f.origin = .response a.id a.change ∧ (chanOf t.link ch).responses = rest
                ∧ t.link.owed = s.link.owed
            | [] => ∃ k rest, (noticeKinds ch).filter (owes s.link.owed) = k :: rest ∧ f.kind = noticeCode k
                ∧ f.tag = 0 ∧ f.origin = .notice k ∧ owes t.link.owed k = false
                ∧ (∃ n, f.payload = writeSnapshot n (snapshot s k)
                  ∧ (reportedTimer (snapshot s k) ≠ none → ReportsLeft s k n))
                ∧ ∀ k', k' ≠ k → owes t.link.owed k' = owes s.link.owed k')
  ∧ (∀ s : State, s.power = .running → s.pins.cts = true →
    exec (.ctsChange false) s = .next (s.setPins { s.pins with cts := false }))
  ∧ ∀ c s t, exec c s = .next t → t.pins.cts = false → s.link.sending = none → t.link.sending = none

/-- R15: no step leaves the transmitter free, CTS asserted and something to send. R10, R16: every step keeps at most four
unanswered requests and a life value in 1..63 on every channel, and a life value in 1..63 in the frame in transmission. R175:
every step keeps the SUBMIT that each job of the queue answers a request of PRINT. R59: every step keeps with each WEIGH in
flight or waiting the three fields its responses echo. -/
def Obligations.LinkInvariantsAreKept : Prop :=
  (∀ s t, ArbiterInv s → step s = .next t → ArbiterInv t)
  ∧ (∀ s t, LinkInv s → step s = .next t → LinkInv t)
  ∧ (∀ s t, ReplyInv s → step s = .next t → ReplyInv t)
  ∧ ∀ s t, EchoInv s → step s = .next t → EchoInv t

/-- R14: whenever a field of a unit's snapshot has changed, its notice kind is owed, or a notice frame has started that
carries the new snapshot. -/
def Obligations.ChangedSnapshotIsOwed : Prop :=
  ∀ c s t k, exec c s = .next t → t.power = .running → snapshot t k ≠ snapshot s k →
    owes t.link.owed k = true
      ∨ ∃ f n, t.link.sending = some f ∧ f.origin = .notice k ∧ f.payload = writeSnapshot n (snapshot t k)

/-- R17: READ LINK STATUS reports the values that stood when it was taken and, with clear = yes, zeroes the count and clears
LINK_DEGRADED and every overrun flag. The count byte 7 before the flags is the model's reading (notes/assumptions/34.md). -/
def Obligations.LinkStatusReportsThenClears : Prop :=
  ∀ (s : State) (tag : Nat) (clear : Bool), Admits s .mgmt tag →
    ∃ t, exec (.readLinkStatus tag (some clear)) s = .next t
      ∧ Answers s t (asker s .mgmt 1 tag none)
        (responsePayload .ok .none
          (u16 s.link.errorCount ++ flag s.link.degraded ++ u8 7 ++ flag s.link.mgmt.overrun
            ++ flag s.link.scale.overrun ++ flag s.link.card.overrun ++ flag s.link.pay.overrun
            ++ flag s.link.ticket.overrun ++ flag s.link.print.overrun ++ flag s.link.drawer.overrun
            ++ u8 s.link.lane ++ u8 (if s.link.laneOverride then 1 else 0) ++ u32 s.link.rate
            ++ u8 (if s.link.rateOverride then 1 else 0))) none
      ∧ LinkRest s t ∧ Keeps [] s t ∧ (clear = false → LinkKept s t)
      ∧ (clear = true → t.link.errorCount = 0 ∧ t.link.degraded = false
          ∧ (∀ ch, (chanOf t.link ch).overrun = false) ∧ t.link.assembler = s.link.assembler
          ∧ t.link.gapTimer = s.link.gapTimer)

/-! ## The Scale Unit -/

/-- R26, R28: an accepted CAL POINT SET places its point in the RAM calibration table: replacing the point at an index below
the number held, appending at that number. Z, Z0 and the tare go, the filtered-weight window is emptied, a scale in READY or
NO_ZERO is in NO_ZERO with its reason reset, METRO is marked changed and usability is judged again (R31). R38, R47, R55, R56:
an operation in flight that the scale's leaving of READY ends is answered REJECTED/SCALE_STATE at that moment, and a WEIGH
waits on in NO_ZERO with the blocking reason NOT_READY; in UNCALIBRATED every one ends. With no SCALE request waiting. R27,
R28: an accepted CAL POINT DELETE removes its point and has the effects of an accepted edit; an index at or
above the number of points held is answered NOT_FOUND. Both are refused LOCKED outside CAL mode and BUSY during a METRO save;
a point beyond the table's end or out of its order is BAD_FIELD. The number of points in the responses is one byte, which the
manual leaves open (notes/assumptions/33.md); the reason of NO_ZERO is kept elsewhere (notes/assumptions/28.md), and usable
metrology is R30's (notes/assumptions/6.md). -/
def Obligations.CalPointsAreSetAndDeleted : Prop :=
  (∀ (s : State) (tag : Nat) (f : CalPointFields) (points : List CalPoint), Admits s .mgmt tag → ScaleFaultInv s →
    f.index ≤ 7 → -8388608 ≤ f.point.count → f.point.count ≤ 8388607 → -1000000 ≤ f.point.weight →
    f.point.weight ≤ 70000000 → s.pins.calClosed = true → s.store.savingMetro = none → s.scale.waiting = [] →
    (f.index < s.store.metro.points.length ∧ points = s.store.metro.points.set f.index f.point
      ∨ f.index = s.store.metro.points.length ∧ points = s.store.metro.points ++ [f.point]) →
    points.Pairwise (fun a b => a.count < b.count ∧ a.weight < b.weight) →
    CompletesEnding (.calPointSet tag (some f)) s (asker s .mgmt 2 tag none)
      (responsePayload .ok .none (u8 points.length)) none [.store, .scale, .lamps] (CalEdited points s))
  ∧ (∀ (s : State) (tag i : Nat), Admits s .mgmt tag → i ≤ 7 → s.pins.calClosed = true → s.store.savingMetro = none →
    s.scale.waiting = [] →
    (i < s.store.metro.points.length → ScaleFaultInv s →
      CompletesEnding (.calPointDelete tag (some i)) s (asker s .mgmt 3 tag none)
        (responsePayload .ok .none (u8 (s.store.metro.points.length - 1))) none [.store, .scale, .lamps]
        (CalEdited (s.store.metro.points.eraseIdx i) s))
    ∧ (s.store.metro.points.length ≤ i →
      Completes (.calPointDelete tag (some i)) s (asker s .mgmt 3 tag none) (responsePayload .notFound .none []) none
        [] fun _ => True))
  ∧ (∀ (s : State) (tag : Nat) (f : CalPointFields) (i : Nat), Admits s .mgmt tag → s.scale.waiting = [] →
    f.index ≤ 7 → -8388608 ≤ f.point.count → f.point.count ≤ 8388607 →
    -1000000 ≤ f.point.weight → f.point.weight ≤ 70000000 → i ≤ 7 →
    let set (result : Result) := Completes (.calPointSet tag (some f)) s (asker s .mgmt 2 tag none)
      (responsePayload result .none []) none [] fun _ => True
    let both (result : Result) := set result ∧ Completes (.calPointDelete tag (some i)) s (asker s .mgmt 3 tag none)
      (responsePayload result .none []) none [] fun _ => True
    let held := s.store.metro.points
    let placed := if f.index < held.length then held.set f.index f.point else held ++ [f.point]
    (s.pins.calClosed = false → both .locked)
    ∧ (s.pins.calClosed = true → s.store.savingMetro ≠ none → both .busy)
    ∧ (s.pins.calClosed = true → s.store.savingMetro = none →
      held.length < f.index ∨ ¬ placed.Pairwise (fun a b => a.count < b.count ∧ a.weight < b.weight) → set .badField))

/-- R29: CAL POINT READ answers the number of points held and the point, and NOT_FOUND with the number held beyond the last
point, whatever the CAL switch and whatever save is in flight; an index above 7 is BAD_FIELD; it changes nothing. The
number of points is one byte, which the manual leaves open (notes/assumptions/33.md). -/
def Obligations.CalPointReadReportsPoint : Prop :=
  ∀ (s : State) (tag i : Nat), Admits s .mgmt tag →
    (∀ p, i ≤ 7 → s.store.metro.points[i]? = some p →
      Completes (.calPointRead tag (some i)) s (asker s .mgmt 4 tag none)
        (responsePayload .ok .none (u8 s.store.metro.points.length ++ i32 p.count ++ i32 p.weight)) none []
        fun _ => True)
    ∧ (i ≤ 7 → s.store.metro.points.length ≤ i →
      Completes (.calPointRead tag (some i)) s (asker s .mgmt 4 tag none)
        (responsePayload .notFound .none (u8 s.store.metro.points.length)) none [] fun _ => True)
    ∧ (7 < i →
      Completes (.calPointRead tag (some i)) s (asker s .mgmt 4 tag none) (responsePayload .badField .none []) none []
        fun _ => True)

/-- R37: ZERO is refused outside READY and with a tare present; on a stable weight it is decided at once by the distance
from Z0 against MAX2 × ZSR × 10 mg, with the MAX2 of that weight (R32); on a moving one it waits with the motion wait
timer. R46: TARE is refused outside READY; on a stable weight the tare becomes SEMI with the displayed gross, refused
TARE_RANGE under overload or underload and for a displayed gross of 0 or below or above MAX1; on a moving one it waits. The
held reading keeps its net (R52; notes/assumptions/27.md). -/
def Obligations.ZeroAndTareAreDecidedOrWait : Prop :=
  (∀ (s : State) (tag : Nat), Admits s .scale tag → s.scale.op = none → s.scale.waiting = [] →
    (s.scale.state ≠ .ready →
      Completes (.zero tag (some ())) s (asker s .scale 1 tag none) (responsePayload .rejected .scaleState []) none []
        fun _ => True)
    ∧ (s.scale.state = .ready → s.scale.tare ≠ none →
      Completes (.zero tag (some ())) s (asker s .scale 1 tag none) (responsePayload .rejected .tareActive []) none []
        fun _ => True)
    ∧ (∀ r z0, s.scale.state = .ready → s.scale.tare = none → s.scale.reading = some r → s.scale.zero0 = some z0 →
      s.scale.stable = true →
      ((r.weight - z0).natAbs ≤ r.max2 * s.store.metro.zeroSetting * 10 →
        Completes (.zero tag (some ())) s (asker s .scale 1 tag none) (responsePayload .ok .none []) none [.scale]
          fun t => t.scale = { s.scale with zero := some r.weight, tracking := 0 })
      ∧ (r.max2 * s.store.metro.zeroSetting * 10 < (r.weight - z0).natAbs →
        Completes (.zero tag (some ())) s (asker s .scale 1 tag none) (responsePayload .rejected .outOfZeroRange [])
          none [] fun _ => True))
    ∧ (s.scale.state = .ready → s.scale.tare = none → s.scale.stable = false →
      ∃ t, exec (.zero tag (some ())) s = .next t ∧ Waits s t (asker s .scale 1 tag none) ∧ LinkKept s t
        ∧ Keeps [.scale] s t
        ∧ t.scale = { s.scale with op := some (.zero (asker s .scale 1 tag none) s.store.settings.motionWait) }))
  ∧ (∀ (s : State) (tag : Nat), Admits s .scale tag → s.scale.op = none → s.scale.waiting = [] →
    (s.scale.state ≠ .ready →
      Completes (.tare tag (some ())) s (asker s .scale 2 tag none) (responsePayload .rejected .scaleState []) none []
        fun _ => True)
    ∧ (∀ r, s.scale.state = .ready → s.scale.reading = some r → s.scale.stable = true →
      (r.overload = false ∧ r.underload = false ∧ 0 < r.displayedGross ∧ r.displayedGross ≤ r.max1 →
        Completes (.tare tag (some ())) s (asker s .scale 2 tag none)
          (responsePayload .ok .none (u32 r.displayedGross.toNat)) none [.scale]
          fun t => t.scale = { s.scale with tare := some ⟨r.displayedGross.toNat, .semi, 0⟩ })
      ∧ (r.overload = true ∨ r.underload = true ∨ r.displayedGross ≤ 0 ∨ (r.max1 : Int) < r.displayedGross →
        Completes (.tare tag (some ())) s (asker s .scale 2 tag none) (responsePayload .rejected .tareRange []) none []
          fun _ => True))
    ∧ (s.scale.state = .ready → s.scale.stable = false →
      ∃ t, exec (.tare tag (some ())) s = .next t ∧ Waits s t (asker s .scale 2 tag none) ∧ LinkKept s t
        ∧ Keeps [.scale] s t
        ∧ t.scale = { s.scale with op := some (.tare (asker s .scale 2 tag none) s.store.settings.motionWait) }))

/-- R48: the checks of PRESET TARE in their order, the rounding of the raw value to a multiple of d1 with halves up, and the
tare it makes. R49: CLEAR TARE makes the tare absent in every scale state and in CAL mode and is answered OK with no fields;
payload bytes make it BAD_FIELD; with the tare already absent SCALE_STATE is not made owed. Neither changes the displayed net
held, by R52 (the model's reading, notes/assumptions/27.md); d1 and MAX1 are those of the RAM area
(notes/assumptions/49.md). -/
def Obligations.PresetTareIsRoundedAndCleared : Prop :=
  (∀ (s : State) (tag : Nat) (f : PresetFields), Admits s .scale tag → s.scale.op = none → s.scale.waiting = [] →
    let who := asker s .scale 3 tag none
    let c : Instr := .presetTare tag (some f)
    let entry := if f.code = 0 then some f.value else (s.store.settings.tares[f.code - 1]?).getD none
    if ¬ (1 ≤ f.code ∧ f.code ≤ 32 ∧ f.value = 0 ∨ f.code = 0 ∧ 1 ≤ f.value ∧ f.value ≤ 60000) then
      Completes c s who (responsePayload .badField .none []) none [] fun _ => True
    else if s.scale.state = .off ∨ s.scale.state = .uncalibrated then
      Completes c s who (responsePayload .rejected .scaleState []) none [] fun _ => True
    else match entry with
      | none => Completes c s who (responsePayload .notFound .none []) none [] fun _ => True
      | some raw =>
        let value := (2 * raw + s.store.metro.d1) / (2 * s.store.metro.d1) * s.store.metro.d1
        if s.store.metro.max1 < value then Completes c s who (responsePayload .limit .none []) none [] fun _ => True
        else if value = 0 then Completes c s who (responsePayload .rejected .tareRange []) none [] fun _ => True
        else Completes c s who (responsePayload .ok .none (u32 value ++ u8 f.code)) none [.scale] fun t =>
          t.scale = { s.scale with
            tare := some (if f.code = 0 then ⟨value, .semi, 0⟩ else ⟨value, .preset, f.code⟩) })
  ∧ (∀ (s : State) (tag : Nat), Admits s .scale tag → s.scale.op = none → s.scale.waiting = [] →
    Completes (.clearTare tag (some ())) s (asker s .scale 4 tag none) (responsePayload .ok .none []) none [.scale]
      (fun t => t.scale = { s.scale with tare := none }
        ∧ (s.scale.tare = none → t.link.owed.scaleState = true → s.link.owed.scaleState = true))
    ∧ Completes (.clearTare tag none) s (asker s .scale 4 tag none) (responsePayload .badField .none []) none []
      fun _ => True)

/-- R55, R57 to R60: a WEIGH that the held reading satisfies at take issues a record with the next record number, priced net
× U ÷ base to nearest with halves up; with post = yes it also appends the WEIGHED line and clears the rearm flag, or, where
the total would leave its limit, is refused LIMIT and issues nothing. d1 and MAX2 are those of the held reading (R32). The
tare of the record is the one present now (notes/assumptions/27.md). -/
def Obligations.WeighIssuesPricedRecord : Prop :=
  ∀ (s : State) (tag : Nat) (f : WeighFields) (r : Reading), Admits s .scale tag → s.scale.op = none →
    s.scale.waiting = [] → 1 ≤ f.item → f.item ≤ 999999 → f.price ≤ 999999 → s.pins.calClosed = false →
    s.scale.state = .ready → s.scale.reading = some r → s.scale.stable = true → r.overload = false →
    r.underload = false → 20 * (r.d1 : Int) ≤ r.displayedNet → r.displayedGross ≤ r.max2 →
    let who := asker s .scale 5 tag (some ⟨f.item, f.price, priceBaseCode f.base⟩)
    let grams := match f.base with
      | .perKg => 1000
      | .per100g => 100
    let price := (2 * r.displayedNet.toNat * f.price + grams) / (2 * grams)
    let tare := match s.scale.tare with
      | some x => x.value
      | none => 0
    let next := if s.scale.nextRecord = 65535 then 1 else s.scale.nextRecord + 1
    let record := u16 s.scale.nextRecord ++ u32 f.item ++ i32 r.displayedGross ++ u32 tare ++ i32 r.displayedNet
      ++ u32 f.price ++ u8 (priceBaseCode f.base) ++ u32 price ++ u8 r.range ++ u8 r.division ++ u32 s.store.counter
      ++ u8 s.link.lane
    (f.post = false →
      Completes (.weigh tag (.fields f)) s who (responsePayload .ok .none (record ++ u8 0)) none [.scale] fun t =>
        t.scale = { s.scale with nextRecord := next })
    ∧ ∀ k : Ticket, f.post = true → s.ticket.current = some k → k.phase = .opened → k.lines.length < 99 →
      s.scale.rearm = true →
      (k.total + price < -9999999999 ∨ 9999999999 < k.total + price →
        Completes (.weigh tag (.fields f)) s who (responsePayload .limit .none (u16 0 ++ u32 f.item ++ i32 0 ++ u32 0 ++ i32 0
          ++ u32 f.price ++ u8 (priceBaseCode f.base) ++ u32 0 ++ u8 0 ++ u8 0 ++ u32 0 ++ u8 0 ++ u8 0)) none []
          fun _ => True)
      ∧ (-9999999999 ≤ k.total + price → k.total + price ≤ 9999999999 →
      Completes (.weigh tag (.fields f)) s who (responsePayload .ok .none (record ++ u8 (k.lines.length + 1))) none
        [.scale, .ticket] fun t =>
          t.scale = { s.scale with nextRecord := next, rearm := false } ∧ t.ticket.next = s.ticket.next
            ∧ t.ticket.current = some { k with
              lines := k.lines ++ [⟨k.lines.length + 1, f.item, price, false,
                .weighed ⟨r.displayedNet, r.displayedGross, tare, f.price, f.base, s.scale.nextRecord, s.store.counter⟩⟩]
              total := k.total + price
              checkMatched := false })

/-- R54, R55, R59: the refusals of WEIGH at take in their order, each echoing the item code, U and base; a WEIGH they do not
refuse and the reading does not satisfy is in flight with its effective wait and its blocking reason, by the d1 and MAX2 of
the held reading (R32). -/
def Obligations.WeighIsRefusedOrWaits : Prop :=
  ∀ (s : State) (tag : Nat) (f : WeighFields), Admits s .scale tag → s.scale.op = none → s.scale.waiting = [] →
    1 ≤ f.item → f.item ≤ 999999 → f.price ≤ 999999 →
    let who := asker s .scale 5 tag (some ⟨f.item, f.price, priceBaseCode f.base⟩)
    let c : Instr := .weigh tag (.fields f)
    let echo := u16 0 ++ u32 f.item ++ i32 0 ++ u32 0 ++ i32 0 ++ u32 f.price ++ u8 (priceBaseCode f.base) ++ u32 0
      ++ u8 0 ++ u8 0 ++ u32 0 ++ u8 0 ++ u8 0
    let isOpen := ∃ k, s.ticket.current = some k ∧ k.phase = .opened
    let isFull := ∃ k, s.ticket.current = some k ∧ 99 ≤ k.lines.length
    let wait := if f.wait = 0 then s.store.settings.captureWait else min f.wait 10000
    let waiting (blocking : Reason) := ∃ t, exec c s = .next t ∧ Waits s t who ∧ LinkKept s t ∧ Keeps [.scale] s t
      ∧ t.scale = { s.scale with op := some (.weigh who f wait blocking) }
    (s.pins.calClosed = true → Completes c s who (responsePayload .rejected .calMode echo) none [] fun _ => True)
    ∧ (s.pins.calClosed = false →
      (s.scale.state = .off ∨ s.scale.state = .uncalibrated →
        Completes c s who (responsePayload .rejected .scaleState echo) none [] fun _ => True)
      ∧ (s.scale.state ≠ .off → s.scale.state ≠ .uncalibrated →
        (f.post = true → ¬ isOpen →
          Completes c s who (responsePayload .rejected .ticketState echo) none [] fun _ => True)
        ∧ (f.post = true → isOpen → s.scale.rearm = false →
          Completes c s who (responsePayload .rejected .sameLoad echo) none [] fun _ => True)
        ∧ (f.post = true → isOpen → s.scale.rearm = true → isFull →
          Completes c s who (responsePayload .full .none echo) none [] fun _ => True)
        ∧ (f.post = false ∨ isOpen ∧ s.scale.rearm = true ∧ ¬ isFull →
          (s.scale.state ≠ .ready → waiting .notReady)
          ∧ ∀ r, s.scale.state = .ready → s.scale.reading = some r →
            (s.scale.stable = false → waiting .moving)
            ∧ (s.scale.stable = true → r.overload = true → waiting .overload)
            ∧ (s.scale.stable = true → r.overload = false → r.underload = true → waiting .underload)
            ∧ (s.scale.stable = true → r.overload = false → r.underload = false →
              r.displayedNet < 20 * (r.d1 : Int) → waiting .belowMin)
            ∧ (s.scale.stable = true → r.overload = false → r.underload = false →
              20 * (r.d1 : Int) ≤ r.displayedNet → (r.max2 : Int) < r.displayedGross →
              waiting .aboveMax))))

/-- R44: a SCALE request, malformed or not, that is admitted with an operation in flight or a request waiting joins the waiting
requests at their end, unanswered, and changes nothing else; a malformed WEIGH keeps each of item code, U and base that its
payload holds (R59), and a free value of the others (notes/assumptions/54.md). That nothing comes between its admission and its
place there is the model's reading (notes/assumptions/13.md). R42: READ SCALE answers the fields of SCALE_STATE (R41) as they
stand, and is refused only when malformed; outside READY the displayed values and the conditions are 0 or no, and under
overload or underload the displayed values are 0. The net reported is the held one also where no tare is present (R52), where
R41 has it equal to the gross: the model's reading (notes/assumptions/27.md), as is how long the reason lasts
(notes/assumptions/28.md). -/
def Obligations.ReadScaleReportsSnapshot : Prop :=
  (∀ (s : State) (tag : Nat) (r : Request), requestChannel r = .scale → Admits s .scale tag →
    (s.scale.op ≠ none ∨ s.scale.waiting ≠ []) →
    let joins (c : Instr) (kind : Nat) (echo : Option WeighEcho) (q : Option Request) :=
      let who := asker s .scale kind tag echo
      ∃ t, exec c s = .next t ∧ Waits s t who ∧ LinkKept s t ∧ Keeps [.scale] s t
        ∧ t.scale = { s.scale with waiting := s.scale.waiting ++ [⟨who, q⟩] }
    joins (commandOf tag r) (requestKind r) (weighEcho r) (some r)
      ∧ joins (malformedOf tag r) (requestKind r) (requestEcho s.link.nextId .scale (requestKind r) [] none) none
      ∧ ∀ payload, readWhole readWeigh payload = none →
        ∃ e, EchoesPayload payload e ∧ joins (.weigh tag (.bytes payload)) 5 (some e) none)
  ∧ ∀ (s : State) (tag : Nat), Admits s .scale tag → s.scale.op = none → s.scale.waiting = [] →
    let c : Instr := .readScale tag (some ())
    let who := asker s .scale 6 tag none
    let front := u8 (scaleStateCode s.scale.state) ++ flag s.pins.calClosed
    let filtered := optional i32 (if s.pins.calClosed then s.scale.latest else none)
    Completes (.readScale tag none) s who (responsePayload .badField .none []) none [] (fun _ => True)
    ∧ (s.scale.state ≠ .ready →
      Completes c s who
        (responsePayload .ok .none
          (front ++ i32 0 ++ optional writeTare s.scale.tare ++ i32 0 ++ u8 0 ++ flag false ++ flag false ++ flag false
            ++ flag false ++ flag s.scale.rearm ++ u8 (scaleReason s).code ++ filtered)) none [] fun _ => True)
    ∧ ∀ r, s.scale.state = .ready → s.scale.reading = some r →
      let limited := r.overload || r.underload
      Completes c s who
        (responsePayload .ok .none
          (front ++ i32 (if limited then 0 else r.displayedGross) ++ optional writeTare s.scale.tare
            ++ i32 (if limited then 0 else r.displayedNet) ++ u8 r.range ++ flag s.scale.stable ++ flag r.overload
            ++ flag r.underload ++ flag r.centre ++ flag s.scale.rearm ++ u8 0 ++ filtered)) none [] fun _ => True

/-- R19, R23 to R25, R32 to R35, R39, R52, R53: a sample arrival without REF at which a filtered count results, in READY,
or in SETTLING with Z set, which it ends. The filtered count is the sum of the F newest counts ÷ F to nearest, halves
toward +∞; the table gives its weight (R25); the gross is the weight less Z; the displayed values are multiples of the
division of the range, to nearest, halves away from zero; the conditions, the rearm flag with its auto-clear, stability
and the zero-tracking step are as the rules say. R37, R46, R55: an operation in flight is decided on this reading: ZERO
and TARE once the scale is stable, a WEIGH once all its conditions hold, else it keeps the first that fails as its
blocking reason. R57, R58: a completed WEIGH issues its record; with post = yes it appends its line, or is refused by the
ticket as it stands and issues nothing. That the net is formed without a tare the same reading clears, and that the reason of
NO_ZERO is kept, are the model's reading (notes/assumptions/27.md, notes/assumptions/28.md). -/
def Obligations.ReadySampleFormsReading : Prop :=
  ∀ (s : State) (count w z z0 x y : Int) (ovr : Bool), Weighs s count w →
    s.scale.state = .ready ∨ s.scale.state = .settling → s.scale.zero = some z → s.scale.zero0 = some z0 →
    s.scale.waiting = [] →
    let m := s.store.metro
    let g := w - z
    let tare := if g < 10 * m.d1 * 1000 ∧ s.scale.rearm = false ∧ s.store.settings.tareAutoClear = true then none
      else s.scale.tare
    let value : Nat := match tare with
      | some k => k.value
      | none => 0
    NearestAway g (divisionAt m g) x → NearestAway (g - value * 1000) (divisionAt m g) y →
    let r := readingOf m z w x y ovr
    let stable := StableWindow m (weightsAfter s w)
    let c : Instr := .sampleArrival count ovr false
    let formed (t : State) := Filtered s t count w ∧ t.scale.state = .ready ∧ t.scale.reading = some r
      ∧ t.scale.waiting = [] ∧ t.scale.zero0 = s.scale.zero0 ∧ t.scale.zeroOutOfRange = s.scale.zeroOutOfRange
      ∧ (s.scale.state = .ready → t.lamps = s.lamps) ∧ (s.scale.state = .settling → FaultCleared s t)
    let rearmed (t : State) := t.scale.rearm = (s.scale.rearm || decide (g < 10 * m.d1 * 1000))
    let numbered (t : State) := t.scale.nextRecord = s.scale.nextRecord
    let happens (post : State → Prop) := Happens c s [.scale, .lamps] fun t =>
      formed t ∧ rearmed t ∧ numbered t ∧ t.scale.tare = tare ∧ post t
    let answers (who : Admitted) (result : Result) (reason : Reason) (fields : List Byte) (parts : List Part)
        (post : State → Prop) :=
      AnswersLater c s who (responsePayload result reason fields) (.scale :: .lamps :: parts) fun t =>
        formed t ∧ t.scale.op = none ∧ t.scale.tracking = 0 ∧ post t
    let waits (op : ScaleOp) := happens fun t =>
      t.scale.op = some op ∧ t.scale.tracking = 0 ∧ t.scale.zero = s.scale.zero
    (s.scale.op = none → happens fun t => t.scale.op = none
      ∧ let counts := m.zeroTracking = true ∧ tare = none ∧ stable ∧ g.natAbs ≤ 250 * m.d1
        (¬ counts → t.scale.tracking = 0 ∧ t.scale.zero = some z)
        ∧ (counts → s.scale.tracking < 15 → t.scale.tracking = s.scale.tracking + 1 ∧ t.scale.zero = some z)
        ∧ (counts → 15 ≤ s.scale.tracking → t.scale.tracking = 0
          ∧ t.scale.zero = some (if (w - z0).natAbs ≤ m.max2 * 40 then w else z)))
    ∧ (∀ who timer, s.scale.op = some (.zero who timer) →
      let decided (result : Result) (reason : Reason) (zero : Int) := answers who result reason [] [] fun t =>
        rearmed t ∧ numbered t ∧ t.scale.tare = tare ∧ t.scale.zero = some zero
      (¬ stable → waits (.zero who timer))
      ∧ (stable → (w - z0).natAbs ≤ m.max2 * m.zeroSetting * 10 → decided .ok .none w)
      ∧ (stable → m.max2 * m.zeroSetting * 10 < (w - z0).natAbs → decided .rejected .outOfZeroRange z))
    ∧ (∀ who timer, s.scale.op = some (.tare who timer) →
      let fits := r.overload = false ∧ r.underload = false ∧ 0 < x ∧ x ≤ m.max1
      let decided (result : Result) (reason : Reason) (fields : List Byte) (now : Option Tare) :=
        answers who result reason fields [] fun t =>
          rearmed t ∧ numbered t ∧ t.scale.tare = now ∧ t.scale.zero = some z
      (¬ stable → waits (.tare who timer))
      ∧ (stable → fits → decided .ok .none (u32 x.toNat) (some ⟨x.toNat, .semi, 0⟩))
      ∧ (stable → ¬ fits → decided .rejected .tareRange [] tare))
    ∧ ∀ who f timer blocking, s.scale.op = some (.weigh who f timer blocking) →
      EchoInv s →
      let blocked (reason : Reason) := waits (.weigh who f timer reason)
      let inside := stable ∧ r.overload = false ∧ r.underload = false
      let satisfied := inside ∧ 20 * (m.d1 : Int) ≤ y ∧ x ≤ m.max2
      let grams := match f.base with
        | .perKg => 1000
        | .per100g => 100
      let price := (2 * y.toNat * f.price + grams) / (2 * grams)
      let next := if s.scale.nextRecord = 65535 then 1 else s.scale.nextRecord + 1
      let record := u16 s.scale.nextRecord ++ u32 f.item ++ i32 x ++ u32 value ++ i32 y ++ u32 f.price
        ++ u8 (priceBaseCode f.base) ++ u32 price ++ u8 r.range ++ u8 r.division ++ u32 s.store.counter ++ u8 s.link.lane
      let echo := u16 0 ++ u32 f.item ++ i32 0 ++ u32 0 ++ i32 0 ++ u32 f.price ++ u8 (priceBaseCode f.base) ++ u32 0
        ++ u8 0 ++ u8 0 ++ u32 0 ++ u8 0 ++ u8 0
      let refused (result : Result) (reason : Reason) := answers who result reason echo [] fun t =>
        rearmed t ∧ numbered t ∧ t.scale.tare = tare ∧ t.scale.zero = some z
      (¬ stable → blocked .moving)
      ∧ (stable → r.overload = true → blocked .overload)
      ∧ (stable → r.overload = false → r.underload = true → blocked .underload)
      ∧ (inside → y < 20 * (m.d1 : Int) → blocked .belowMin)
      ∧ (inside → 20 * (m.d1 : Int) ≤ y → m.max2 < x → blocked .aboveMax)
      ∧ (satisfied → f.post = false → answers who .ok .none (record ++ u8 0) [] fun t =>
        rearmed t ∧ t.scale.nextRecord = next ∧ t.scale.tare = tare ∧ t.scale.zero = some z)
      ∧ (satisfied → f.post = true → (∀ k, s.ticket.current = some k → k.phase ≠ .opened) →
        refused .rejected .ticketState)
      ∧ ∀ k, satisfied → f.post = true → s.ticket.current = some k → k.phase = .opened →
        let inLimit := -9999999999 ≤ k.total + price ∧ k.total + price ≤ 9999999999
        (99 ≤ k.lines.length → refused .full .none)
        ∧ (k.lines.length < 99 → ¬ inLimit → refused .limit .none)
        ∧ (k.lines.length < 99 → inLimit →
          answers who .ok .none (record ++ u8 (k.lines.length + 1)) [.ticket] fun t =>
            t.scale.rearm = false ∧ t.scale.nextRecord = next ∧ t.scale.tare = tare ∧ t.scale.zero = some z
            ∧ t.ticket = { s.ticket with current := some { k with
              lines := k.lines ++ [⟨k.lines.length + 1, f.item, price, false,
                .weighed ⟨y, x, value, f.price, f.base, s.scale.nextRecord, s.store.counter⟩⟩]
              total := k.total + price
              checkMatched := false } })

/-- R19, R20, R21: in OFF a sample arrival changes nothing; in UNCALIBRATED, SETTLING, NO_ZERO and READY an arrival with REF
set, and an expiry of the sample timer, enter FAULT: the filter is cleared, Z, Z0 and the tare stay, SCALE_FAULT is raised, and
an operation in flight is answered FAULT/SCALE_FAULT. R38, R47, R56: at the expiry of its wait timer an operation in flight
ends: ZERO and TARE with TIMEOUT/MOVING, WEIGH with TIMEOUT and the blocking reason it holds; nothing else changes. R44: at
that moment the oldest waiting request is taken: those that complete are answered behind it in their order, until one becomes
the operation in flight, the rest waiting on. After each event that can end an operation the waiting requests act as if they
arrived then one after another; that this is the end of the event's effects is the model's reading (notes/assumptions/14.md).
R21: in FAULT an arrival with REF restarts the sample timer alone; one without REF clears the filter, joins the empty window
and leaves FAULT for SETTLING, with SCALE_FAULT kept, or for UNCALIBRATED. R23: an arrival with fewer than F counts joined
produces no filtered count. R24, R36: the first filtered count in SETTLING with Z unset enters NO_ZERO, and in NO_ZERO a stable
weight within MAX2 × PUZ × 10 mg sets Z and Z0 and enters READY, one beyond sets the reason ZERO_OUT_OF_RANGE. These with no
operation in flight. That the weight that sets Z also forms a reading of gross 0 (notes/assumptions/29.md), its rearm and
auto-clear ahead of the net (notes/assumptions/27.md), and how long the reason ZERO_OUT_OF_RANGE lasts
(notes/assumptions/28.md) are the model's reading. -/
def Obligations.ScaleFaultsAndWaitsEndOperations : Prop :=
  ((∀ (s : State) (count : Int) (ovr ref : Bool), s.power = .running → s.scale.state = .off → s.scale.waiting = [] →
    Happens (.sampleArrival count ovr ref) s [] fun _ => True)
  ∧ ∀ (s : State) (c : Instr), s.power = .running → s.scale.waiting = [] → s.scale.state ≠ .off → s.scale.state ≠ .fault →
    ((∃ count ovr, c = .sampleArrival count ovr true) ∨ c = .sampleTimerExpiry ∧ s.scale.sampleTimer ≠ none) →
    (s.scale.op = none → Happens c s [.scale, .lamps] (FaultEntered c s))
    ∧ ∀ op, s.scale.op = some op →
      AnswersLater c s (opWho op) (responsePayload .fault .scaleFault (plainFields (opWho op))) [.scale, .lamps]
        (FaultEntered c s))
  ∧ (∀ (s : State) (op : ScaleOp), s.power = .running → s.scale.waiting = [] → s.scale.op = some op →
    match op with
    | .zero who _ => AnswersLater .motionWaitExpiry s who (responsePayload .timeout .moving (plainFields who)) [.scale]
        fun t => t.scale = { s.scale with op := none }
    | .tare who _ => AnswersLater .motionWaitExpiry s who (responsePayload .timeout .moving (plainFields who)) [.scale]
        fun t => t.scale = { s.scale with op := none }
    | .weigh who _ _ blocking => AnswersLater .captureWaitExpiry s who
        (responsePayload .timeout blocking (plainFields who)) [.scale] fun t => t.scale = { s.scale with op := none })
  ∧ (∀ (s : State) (op : ScaleOp), s.power = .running → s.scale.op = some op →
    let event : Instr × Reason := match op with
      | .weigh _ _ _ blocking => (.captureWaitExpiry, blocking)
      | _ => (.motionWaitExpiry, .moving)
    let payload := responsePayload .timeout event.2 (plainFields (opWho op))
    let follows (next : ScaleOp) (rest : List ScaleRequest) := AnswersLater event.1 s (opWho op) payload [.scale] fun t =>
      t.scale = { s.scale with op := some next, waiting := rest }
    (∀ q rest, s.scale.waiting = q :: rest → q.request = some .tare → s.scale.state = .ready → s.scale.stable = false →
      follows (.tare q.who s.store.settings.motionWait) rest)
    ∧ (∀ q rest f, s.scale.waiting = q :: rest → q.request = some (.weigh f) → 1 ≤ f.item → f.item ≤ 999999 →
      f.price ≤ 999999 → f.post = false → s.pins.calClosed = false →
      s.scale.state = .settling ∨ s.scale.state = .noZero ∨ s.scale.state = .fault →
      follows (.weigh q.who f (if f.wait = 0 then s.store.settings.captureWait else min f.wait 10000) .notReady) rest)
    ∧ ((∀ q ∈ s.scale.waiting, q.request = none ∨ q.request = some .readScale) →
      ∃ t, exec event.1 s = .next t ∧ LinkKept s t ∧ Keeps [.scale] s t
        ∧ t.scale = { s.scale with op := none, waiting := [] }
        ∧ MailAfter [] ((opWho op, payload, none) :: s.scale.waiting.map fun q => (q.who,
          if q.request = none then responsePayload .badField .none []
          else responsePayload .ok .none (writeScale (scaleSnapshot s)), none)) s t))
  ∧ (∀ (s u : State) (c : Instr) (rows : List (ScaleRequest × Instr)), s.power = .running →
    (c = .motionWaitExpiry ∨ c = .captureWaitExpiry ∨ c = .sampleTimerExpiry
      ∨ (∃ count ovr ref, c = .sampleArrival count ovr ref) ∨ c = .calSwitchChange true ∧ s.pins.calClosed = false) →
    (∀ x ∈ rows, WaitsFrom x.2 x.1) → s.scale.waiting = rows.map (fun x => x.1) →
    exec c (s.setScale { s.scale with waiting := [] }) = .next u →
    let v := arriveInTurn (rows.map fun x => (x.1.who.id, x.2)) u
    ∃ t, exec c s = .next t ∧ LinkKept s t ∧ (∀ p : Part, p.same v t)
      ∧ ∀ ch, outbox t.link ch = outbox v.link ch ∧ (chanOf t.link ch).unanswered = (chanOf s.link ch).unanswered)
  ∧ ∀ (s : State) (count : Int) (ovr : Bool), s.power = .running → s.scale.waiting = [] → s.scale.op = none →
    let m := s.store.metro
    let c : Instr := .sampleArrival count ovr false
    let timed := some m.sampleTimeout
    let joined := { s.scale with window := windowAfter s count, joined := s.scale.joined + 1, sampleTimer := timed }
    let left (state : ScaleState) := { s.scale with
      state := state, window := [count], joined := 1, latest := none, weights := [], stable := false, tracking := 0
      reading := none, sampleTimer := timed }
    (s.scale.state = .fault →
      Happens (.sampleArrival count ovr true) s [.scale] (fun t => t.scale = { s.scale with sampleTimer := timed })
      ∧ (UsableWith m.points s → Happens c s [.scale] fun t => t.scale = left .settling)
      ∧ (¬ UsableWith m.points s → Happens c s [.scale, .lamps] fun t =>
        t.scale = left .uncalibrated ∧ FaultCleared s t))
    ∧ (s.scale.state ≠ .off → s.scale.state ≠ .fault → s.scale.joined + 1 < m.filterLength →
      Happens c s [.scale] fun t => t.scale = joined)
    ∧ (s.scale.state = .uncalibrated → 1 ≤ m.filterLength → m.filterLength ≤ 32 → m.filterLength ≤ s.scale.joined + 1 →
      Happens c s [.scale] fun t =>
        t.scale = { joined with latest := some (filteredOf m.filterLength (windowAfter s count)) })
    ∧ ∀ w, Weighs s count w → s.scale.state = .noZero ∨ s.scale.state = .settling ∧ s.scale.zero = none →
      ScaleFaultInv s →
      let stable := StableWindow m (weightsAfter s w)
      let happens (post : State → Prop) := Happens c s [.scale, .lamps] fun t => Filtered s t count w ∧ FaultCleared s t
        ∧ t.scale.op = none ∧ t.scale.waiting = [] ∧ t.scale.nextRecord = s.scale.nextRecord
        ∧ t.scale.tracking = s.scale.tracking ∧ post t
      let unset (reason : Bool) := happens fun t => t.scale.state = .noZero ∧ t.scale.zero = s.scale.zero
        ∧ t.scale.zero0 = s.scale.zero0 ∧ t.scale.zeroOutOfRange = reason ∧ t.scale.tare = s.scale.tare
        ∧ t.scale.rearm = s.scale.rearm
      (¬ stable → unset s.scale.zeroOutOfRange)
      ∧ (stable → m.max2 * m.powerUpZero * 10 < w.natAbs → unset true)
      ∧ ∀ y, stable → w.natAbs ≤ m.max2 * m.powerUpZero * 10 →
        let tare := if s.scale.rearm = false ∧ s.store.settings.tareAutoClear = true then none else s.scale.tare
        let value : Nat := match tare with
          | some k => k.value
          | none => 0
        NearestAway (-(value * 1000 : Int)) (divisionAt m 0) y →
        happens fun t => t.scale.state = .ready ∧ t.scale.zero = some w ∧ t.scale.zero0 = some w
          ∧ t.scale.zeroOutOfRange = false ∧ t.scale.tare = tare ∧ t.scale.rearm = true
          ∧ t.scale.reading = some (readingOf m w w 0 y ovr)

/-! ## Supply, RESET and LANE RESET -/

/-- R200 (with R1, R3, R5, R9, R10, R14, R16, R43, R61, R85, R96, R117, R143, R157, R159, R179, R192): POWER_ON with
the RESET line released, and RESET_LINE_RELEASE with the supply present, run start-up with the straps as they stand. That
POWER_ON does so in any power state, and the release without an assertion, is the model's choice
(notes/assumptions/35.md), and so is that an answer byte in transmission is dropped (notes/assumptions/48.md). Usable
metrology is R30's (notes/assumptions/6.md). -/
def Obligations.StartUpLoadsAndResets : Prop :=
  ∀ (s : State) (lr lid : Nat), lr < 4 → lid < 16 →
    (s.pins.resetAsserted = false → ∃ t, exec (.powerOn lr lid) s = .next t ∧ StartedUp .powerOn lr lid s t)
    ∧ (s.power ≠ .off → ∃ t, exec (.resetLineRelease lr lid) s = .next t ∧ StartedUp .resetLine lr lid s t)

/-- R16, R197, R200: at assertion of the RESET line and at loss of supply the frame in transmission and the saves in flight
are abandoned; an abandoned save leaves its area's check bad; nothing else changes. R200: while the RESET line is asserted
and while the supply is absent, no request or event is taken: a command other than those that end this changes nothing but
the input it names, which takes its level. The RESET line keeps its level without supply, so that POWER_ON during an
assertion leaves the part held until the release; no step leaves it running while the line is asserted. What the reset line's
commands and POWER_ON do in states the part cannot receive them in is the model's choice (notes/assumptions/35.md). -/
def Obligations.ResetAndSupplyStopThePart : Prop :=
  (∀ (s : State) (c : Instr) (power : Power) (pins : Pins),
    (c = .resetLineAssert ∧ power = .held ∧ s.power = .running ∧ pins = { s.pins with resetAsserted := true }
      ∨ c = .supplyLoss ∧ power = .off ∧ pins = s.pins
      ∨ (∃ lr lid, c = .powerOn lr lid) ∧ s.pins.resetAsserted = true ∧ power = .held ∧ pins = s.pins) →
    ∃ t, exec c s = .next t ∧ t.power = power ∧ t.link = { s.link with sending := none }
      ∧ Keeps [.power, .store, .pins] s t ∧ t.pins = pins
      ∧ t.store = { s.store with
        savingMetro := none
        savingSettings := none
        storedMetro := t.store.storedMetro
        storedSettings := t.store.storedSettings }
      ∧ (s.store.savingMetro = none → t.store.storedMetro = s.store.storedMetro)
      ∧ (s.store.savingMetro ≠ none → metroGood t.store = false)
      ∧ (s.store.savingSettings = none → t.store.storedSettings = s.store.storedSettings)
      ∧ (s.store.savingSettings ≠ none → settingsGood t.store = false))
  ∧ (∀ (s : State) (c : Instr), s.power ≠ .running → c ≠ .supplyLoss → (∀ lr lid, c ≠ .powerOn lr lid) →
    (∀ lr lid, c = .resetLineRelease lr lid → s.power = .off) →
    exec c s = .next (s.setPins (levelsAfter c s.pins)))
  ∧ ∀ s t, ResetInv s → step s = .next t → ResetInv t

/-- R18, R61, R83, R96, R114, R152, R179, R199: LANE RESET is accepted in every state and answered OK; every request unanswered
on another channel is answered ABORTED, in the order of admission; ticket, drawer authorization, jobs, slot, grant, scale
operation and tare go; the port's transfer stops as R192 states; START is the last entry written; what R199 keeps is kept, and
so are the input levels. A WEIGH answered ABORTED echoes its request (R59), a free value for a field that could not be read
(notes/assumptions/54.md); the order of the effects (notes/assumptions/37.md) and a further read that was due
(notes/assumptions/53.md) are the model's reading. -/
def Obligations.LaneResetEndsTheSale : Prop :=
  ∀ (s : State) (tag : Nat), Admits s .mgmt tag → ReplyInv s →
    ∃ t, exec (.laneReset tag (some ())) s = .next t ∧ LaneWasReset s t
      ∧ (chanOf t.link .mgmt).unanswered = (chanOf s.link .mgmt).unanswered ++ [asker s .mgmt 11 tag none]
      ∧ outbox t.link .mgmt = outbox s.link .mgmt
        ++ [⟨s.link.nextId, 11, tag, responsePayload .ok .none [], none⟩]
      ∧ (∀ r ∈ s.link.scale.unanswered, ∀ e, r.echo = some e →
        ⟨r.id, r.kind, r.tag, responsePayload .aborted .none (u16 0 ++ u32 e.item ++ i32 0 ++ u32 0 ++ i32 0 ++ u32 e.price
          ++ u8 e.base ++ u32 0 ++ u8 0 ++ u8 0 ++ u32 0 ++ u8 0 ++ u8 0), none⟩ ∈ outbox t.link .scale)
      ∧ Keeps [.scale, .card, .staff, .ticket, .journal, .drawer, .lamps, .print, .port, .store] s t

/-! ## The Lane Journal -/

/-- R136, R137: SET CLOCK gives the lane clock its value and answers the previous reading; 0 is BAD_FIELD. A full second
advances a clock that is set, up to 4,294,967,295. R141, R142: READ JOURNAL, with the count 0 taken as 1 and a count above
16 as 16. From the next sequence: no entries. From a held entry: the held entries from it onward. From a sequence issued but
held no more: from the oldest, with GAP. Otherwise BAD_FIELD. It removes nothing. -/
def Obligations.ClockIsSetAndJournalRead : Prop :=
  ((∀ (s : State) (tag time : Nat), Admits s .mgmt tag → 1 ≤ time → time ≤ 4294967295 →
    Completes (.setClock tag (some time)) s (asker s .mgmt 5 tag none)
      (responsePayload .ok .none (match s.journal.clock with
        | none => u8 0
        | some old => u8 1 ++ u32 old)) none [.journal]
      fun t => t.journal = { s.journal with clock := some time })
  ∧ (∀ (s : State) (tag : Nat), Admits s .mgmt tag →
    Completes (.setClock tag (some 0)) s (asker s .mgmt 5 tag none) (responsePayload .badField .none []) none []
      fun _ => True)
  ∧ ∀ s : State, s.power = .running →
    Happens .laneClockSecond s [.journal] fun t => t.journal = { s.journal with
      clock := match s.journal.clock with
        | none => none
        | some now => some (if now < 4294967295 then now + 1 else now) })
  ∧ (∀ (s : State) (tag : Nat) (f : JournalFields), Admits s .mgmt tag → 1 ≤ f.first → f.first ≤ 4294967295 →
    let c : Instr := .readJournal tag (some f)
    let who := asker s .mgmt 6 tag none
    let count := if f.count = 0 then 1 else min f.count 16
    let answer (gap : Bool) (es : List Entry) := responsePayload .ok .none
      (flag gap
        ++ u32 (match es.getLast? with
          | some e => if e.sequence = 4294967295 then 1 else e.sequence + 1
          | none => s.journal.next)
        ++ optional u32 s.journal.clock ++ u8 es.length ++ (es.map writeEntry).flatten)
    let held := ∃ e ∈ s.journal.ring, e.sequence = f.first
    let issued := if s.journal.wrapped then f.first ≠ s.journal.next else f.first < s.journal.next
    (f.first = s.journal.next → Completes c s who (answer false []) none [] fun _ => True)
    ∧ (∀ older e newer, f.first ≠ s.journal.next → s.journal.ring = older ++ e :: newer → e.sequence = f.first →
      (∀ x ∈ older, x.sequence ≠ f.first) →
      Completes c s who (answer false ((e :: newer).take count)) none [] fun _ => True)
    ∧ (f.first ≠ s.journal.next → ¬ held → issued →
      Completes c s who (answer true (s.journal.ring.take count)) none [] fun _ => True)
    ∧ (f.first ≠ s.journal.next → ¬ held → ¬ issued →
      Completes c s who (responsePayload .badField .none []) none [] fun _ => True))

/-- R134: every step keeps the ring at no more than 256 entries with consecutive sequence numbers, counted with the wrap,
ending just before the next sequence. -/
def Obligations.RingInvIsKept : Prop := ∀ s t, RingInv s → step s = .next t → RingInv t

/-! ## The Settings Store -/

/-- R194: GET ITEM answers the RAM value of an item of Table 12-1, whatever the switch, the lock and any save, and BAD_FIELD
for a number absent from it. R194: the checks of SET ITEM in their order; a write of the value held is answered OK and
changes nothing. -/
def Obligations.ItemsAreReadAndWritesChecked : Prop :=
  (∀ (s : State) (tag n : Nat), Admits s .mgmt tag →
    (∀ v, (n, v) ∈ itemTable s →
      Completes (.getItem tag (some n)) s (asker s .mgmt 7 tag none) (responsePayload .ok .none (u32 v)) none []
        fun _ => True)
    ∧ ((∀ v, (n, v) ∉ itemTable s) →
      Completes (.getItem tag (some n)) s (asker s .mgmt 7 tag none) (responsePayload .badField .none []) none []
        fun _ => True))
  ∧ (∀ (s : State) (tag : Nat) (f : ItemFields), Admits s .mgmt tag →
    let c : Instr := .setItem tag (some f)
    let refused (result : Result) (reason : Reason) :=
      Completes c s (asker s .mgmt 8 tag none) (responsePayload result reason []) none [] fun _ => True
    let metro := 40 ≤ f.item
    let saving := if 40 ≤ f.item then s.store.savingMetro ≠ none else s.store.savingSettings ≠ none
    if itemInRange f.item f.value = false then refused .badField .none
    else if metro ∧ s.pins.calClosed = false then refused .locked .none
    else if f.item = 30 ∧ f.value = 0 ∧ s.pins.calClosed = false then refused .locked .none
    else if ¬ metro ∧ f.item ≠ 30 ∧ s.store.settings.settingsLock = true then refused .locked .none
    else if saving ∧ ¬ (f.item = 30 ∧ f.value = 1) then refused .busy .none
    else if f.item = 1 ∧ s.ticket.current ≠ none then refused .rejected .ticketState
    else (f.item, f.value) ∈ itemTable s →
      Completes c s (asker s .mgmt 8 tag none) (responsePayload .ok .none (u32 f.value)) none [] fun _ => True)

/-- R194, R31, R32: an accepted SET ITEM writes its item and no other, and is answered with the value. A SETTINGS item
that no unit acts on at once changes the RAM area alone, the link's two items through what their response carries (R1,
R3), the source among it (notes/assumptions/31.md); a METRO item sets the changed mark and acts on the scale, which is
judged again in every state. R38, R47, R55, R56: an operation in flight ends REJECTED/SCALE_STATE where the scale leaves its
state, but for a WEIGH at SETTLING, which waits on with NOT_READY. With no SCALE request waiting. Usable metrology is R30's
(notes/assumptions/6.md). -/
def Obligations.SetItemWritesItsItem : Prop :=
  ∀ (s : State) (tag : Nat) (f : ItemFields), Admits s .mgmt tag → itemInRange f.item f.value = true →
    (f.item, f.value) ∉ itemTable s → s.scale.waiting = [] →
    let c : Instr := .setItem tag (some f)
    let who := asker s .mgmt 8 tag none
    let written (t : State) := itemTable t = (itemTable s).map fun row => if row.1 = f.item then (f.item, f.value) else row
    (f.item ≤ 30 → f.item ∉ [5, 19, 20, 21, 22, 23, 24] → (f.item ≠ 30 → s.store.settings.settingsLock = false) →
      (f.item = 30 → f.value = 0 → s.pins.calClosed = true) → (f.item = 30 ∧ f.value = 1 ∨ s.store.savingSettings = none) →
      (f.item = 1 → s.ticket.current = none) →
      ∃ change, Completes c s who (responsePayload .ok .none (u32 f.value)) change [.store]
          (fun t => written t ∧ t.store = { s.store with settings := t.store.settings }
            ∧ t.store.settings.tares = s.store.settings.tares ∧ t.store.settings.ranges = s.store.settings.ranges
            ∧ t.store.settings.fragments = s.store.settings.fragments)
        ∧ (f.item ≠ 1 → f.item ≠ 2 → change = none)
        ∧ (f.item = 1 → ∃ x, change = some x ∧ x.rate = none ∧ x.laneOverride = (f.value != 0)
            ∧ x.lane.getD (givenLane s.store.settings s.straps) = if f.value = 0 then s.straps.lid + 1 else f.value)
        ∧ (f.item = 2 → ∃ x, change = some x ∧ x.lane = none ∧ x.rateOverride = (f.value != 0)
            ∧ (s.straps.lr < 4 → x.rate.getD (givenRate s.store.settings s.straps)
              = if f.value = 0 then 115200 * 2 ^ s.straps.lr else f.value)))
    ∧ (40 ≤ f.item → s.pins.calClosed = true → s.store.savingMetro = none →
      CompletesEnding c s who (responsePayload .ok .none (u32 f.value)) none [.store, .scale, .lamps] fun t =>
        t.scale.op = opAfter s t ∧ t.scale.waiting = [] ∧ written t ∧ t.store.metroChanged = true
          ∧ t.store.metro.points = s.store.metro.points
          ∧ t.store.settings = s.store.settings ∧ t.store.metroValid = s.store.metroValid
          ∧ t.scale.zero = s.scale.zero ∧ t.scale.tare = s.scale.tare ∧ t.scale.rearm = s.scale.rearm
          ∧ (f.item = 44 → t.scale.window = [] ∧ t.scale.joined = 0 ∧ t.scale.latest = none)
          ∧ (f.item ≠ 44 → t.scale.window = s.scale.window ∧ t.scale.joined = s.scale.joined
            ∧ t.scale.latest = s.scale.latest)
          ∧ (f.item = 44 ∨ f.item = 45 → t.scale.weights = []) ∧ (f.item = 49 → t.scale.tracking = 0)
          ∧ (s.scale.state = .off → t.scale.state = .off) ∧ (s.scale.state = .fault → t.scale.state = .fault)
          ∧ (s.scale.state ≠ .off → s.scale.state ≠ .fault → ¬ UsableWith t.store.metro.points t →
            t.scale.state = .uncalibrated)
          ∧ (UsableWith t.store.metro.points t →
            (s.scale.state = .ready → t.scale.state = if f.item = 44 then .settling else .ready)
            ∧ (s.scale.state = .noZero → t.scale.state = if f.item = 44 then .settling else .noZero)
            ∧ (s.scale.state = .settling ∨ s.scale.state = .uncalibrated → t.scale.state = .settling)))

/-- R22, R67, R153, R189, R63, R158: the SETTINGS items that units act on at once. Turned off: the scale port puts the scale in
OFF with its filter cleared, and a ZERO, TARE or WEIGH in flight is answered REJECTED/SCALE_STATE (R38, R47, R56); the card
port empties the slot and drops the partial record and the queued answers; the drawer port puts the drawer in DISABLED; the
printer port takes the stall reason PORT_OFF, and turned on makes its capability read at once. A reader rate returns the
assembler to HUNTING. A lamp whose source becomes CALL_FLASH during a call begins its flash cycle with the lamp on. With no
SCALE request waiting, no authorization held and no job in the queue. The last clause: an authorization held when the drawer
port is turned off is skipped, journalled and reported (R153, R155). That a phase is kept otherwise is the model's reading
(notes/assumptions/45.md); usable metrology is R30's (notes/assumptions/6.md). -/
def Obligations.EnableItemsActAtOnce : Prop :=
  (∀ (s : State) (tag : Nat) (f : ItemFields), Admits s .mgmt tag → s.store.settings.settingsLock = false →
    s.store.savingSettings = none → s.scale.waiting = [] → s.print.jobs = [] → s.print.order = [] →
    s.drawer.auth = none → s.ticket.current = none → itemInRange f.item f.value = true → (f.item, f.value) ∉ itemTable s →
    let written (t : State) := itemTable t = (itemTable s).map fun row => if row.1 = f.item then (f.item, f.value) else row
    let completes (parts : List Part) (post : State → Prop) :=
      Completes (.setItem tag (some f)) s (asker s .mgmt 8 tag none) (responsePayload .ok .none (u32 f.value)) none
        (.store :: parts) fun t => post t ∧ written t
    let scaleSet (post : State → Prop) :=
      CompletesEnding (.setItem tag (some f)) s (asker s .mgmt 8 tag none) (responsePayload .ok .none (u32 f.value)) none
        [.store, .scale, .lamps] fun t => post t ∧ written t
          ∧ t.scale.op = s.scale.op.bind (opEntering t.scale.state) ∧ t.scale.waiting = []
    (f.item = 5 → completes [.card] fun t => t.card = { s.card with assembler := .hunting, charTimer := none })
    ∧ (f.item = 19 ∨ f.item = 20 → completes [.lamps] fun t => t.lamps =
      let flashes := decide (f.value = 3 ∧ s.lamps.reasons ≠ [])
      if f.item = 19 then { s.lamps with phaseA := flashes || s.lamps.phaseA }
      else { s.lamps with phaseB := flashes || s.lamps.phaseB })
    ∧ (f.item = 21 → f.value = 0 → scaleSet fun t => t.scale.state = .off ∧ t.scale.window = []
      ∧ t.scale.joined = 0 ∧ t.scale.latest = none ∧ t.scale.sampleTimer = none ∧ t.scale.zero = s.scale.zero
      ∧ t.scale.zero0 = s.scale.zero0 ∧ t.scale.tare = s.scale.tare ∧ CallReason.scaleFault ∉ t.lamps.reasons)
    ∧ (f.item = 21 → f.value = 1 → scaleSet fun t => t.scale.window = [] ∧ t.scale.joined = 0
      ∧ t.scale.sampleTimer = some s.store.metro.sampleTimeout
      ∧ (UsableWith s.store.metro.points s → t.scale.state = .settling)
      ∧ (¬ UsableWith s.store.metro.points s → t.scale.state = .uncalibrated))
    ∧ (f.item = 22 → f.value = 0 → completes [.card] fun t => t.card = { s.card with
      assembler := .hunting, charTimer := none, answers := [], slot := .empty })
    ∧ (f.item = 22 → f.value = 1 → completes [.card] fun t => t.card = { s.card with
      assembler := .hunting, charTimer := none, slot := .empty })
    ∧ (f.item = 23 → f.value = 0 → completes [.drawer, .lamps] fun t => t.drawer.state = .disabled
      ∧ t.drawer.auth = none ∧ t.drawer.forced = false ∧ t.drawer.alarm = false ∧ t.drawer.pulseTimer = none
      ∧ t.drawer.leftOpenTimer = none ∧ CallReason.drawerJammed ∉ t.lamps.reasons
      ∧ CallReason.drawerLeftOpen ∉ t.lamps.reasons)
    ∧ (f.item = 23 → f.value = 1 → completes [.drawer] fun t =>
      t.drawer.state = if s.drawer.levelClosed then .closed else .opened)
    ∧ (f.item = 24 → f.value = 0 → completes [.port] fun t => t.port.stall = some .portOff ∧ t.port.mode = .compat
      ∧ t.port.fifo = [] ∧ t.port.reading = none ∧ t.port.due = none ∧ t.port.current = none
      ∧ t.port.pollTimer = none)
    ∧ (f.item = 24 → f.value = 1 → s.port.mode = .compat → s.port.reading = none → s.port.current = none →
      completes [.port] fun t => t.port.mode = .status ∧ t.port.reading ≠ none ∧ t.port.due = none
        ∧ t.port.busyTimer = some s.store.settings.busyLimit))
  ∧ ∀ (s : State) (tag : Nat) (a : Authorization), Admits s .mgmt tag → s.store.settings.settingsLock = false →
    s.store.savingSettings = none → s.scale.waiting = [] → s.drawer.auth = some a →
    s.store.settings.drawerEnable = true →
    Completes (.setItem tag (some ⟨23, 0⟩)) s (asker s .mgmt 8 tag none) (responsePayload .ok .none (u32 0)) none
      [.store, .drawer, .lamps, .ticket, .card, .journal] fun t =>
        t.store = { s.store with settings := { s.store.settings with drawerEnable := false } }
        ∧ t.drawer = { s.drawer with
          state := .disabled, auth := none, attempts := 0, forced := false, alarm := false
          pulseTimer := none, confirmTimer := none, leftOpenTimer := none }
        ∧ t.lamps.reasons = s.lamps.reasons.filter (fun r => r != .drawerJammed && r != .drawerLeftOpen)
        ∧ DrawerReported [(operatorNumber s, .drawerSkipped a.cause a.number)] s t

/-- R196: the checks of SAVE in their order. An accepted SAVE is in flight with the RAM area as it stands; for METRO the
counter advances by one and its cell is written. R197: when the write of a save ends, its request is answered OK or FAULT
and the journal receives its entry. A passing verify leaves the image stored with a passing check and the area valid, and
for METRO clears the changed mark; a failing one leaves the check bad and the area invalid. The RAM copy is untouched, but
for a decision put off by the save (R195), which is made when it ends: with the changed mark still set RAM METRO is reverted.
An operation in flight that the loss of usability ends is answered after the save (R38, R47, R56). With no SCALE request
waiting. That the stored area holds the image also after a failing verify is the model's choice
(notes/assumptions/9.md); METRO is consistent as R30 says (notes/assumptions/6.md). -/
def Obligations.SavesAreTakenAndEnd : Prop :=
  (∀ (s : State) (tag : Nat), Admits s .mgmt tag →
    let who := asker s .mgmt 9 tag none
    let refused (a : Area) (result : Result) (reason : Reason) :=
      Completes (.save tag (some a)) s who (responsePayload result reason []) none [] fun _ => True
    let taken (a : Area) (post : State → Prop) := ∃ t, exec (.save tag (some a)) s = .next t ∧ Waits s t who
      ∧ LinkKept s t ∧ Keeps [.store] s t ∧ post t
    (if s.pins.calClosed = false then refused .metro .locked .none
      else if s.store.savingMetro ≠ none then refused .metro .busy .none
      else if consistent s.store.metro = false then refused .metro .badField .metroInconsistent
      else if 4294967295 ≤ s.store.counter then refused .metro .limit .none
      else taken .metro fun t => counterGood t.store = true ∧ t.store = { s.store with
        counter := s.store.counter + 1
        counterCell := ⟨s.store.counter + 1, t.store.counterCell.check⟩
        savingMetro := some ⟨who, s.store.metro, s.store.counter + 1⟩ })
    ∧ (if s.store.savingSettings ≠ none then refused .settings .busy .none
      else taken .settings fun t => t.store = { s.store with savingSettings := some ⟨who, s.store.settings, 0⟩ }))
  ∧ (∀ (s : State) (verified : Bool), s.power = .running → s.scale.waiting = [] →
    (∀ x, s.store.savingMetro = some x → s.store.putOff = false ∨ verified = true ∨ s.store.metroChanged = false →
      AnswersLaterEnding (.saveWriteEnd .metro verified) s x.who
        (responsePayload (if verified then .ok else .fault) .none (if verified then u32 x.count else []))
        [.store, .scale, .lamps, .journal] fun t =>
          t.scale.op = opAfter s t ∧ t.scale.waiting = [] ∧ t.store.savingMetro = none ∧ t.store.putOff = false
          ∧ t.store.storedMetro.contents = x.image ∧ metroGood t.store = verified
          ∧ t.store.metroValid = verified ∧ (verified = true → t.store.metroChanged = false)
          ∧ (verified = false → t.store.metroChanged = s.store.metroChanged) ∧ t.store.metro = s.store.metro
          ∧ t.store.counter = s.store.counter ∧ t.store.settings = s.store.settings
          ∧ (verified = false → s.scale.state ≠ .off → s.scale.state ≠ .fault → t.scale.state = .uncalibrated)
          ∧ Wrote [(operatorNumber s, .metroSaved x.count verified)] s t)
    ∧ (∀ x, s.store.savingMetro = some x → s.store.putOff = true → verified = false → s.store.metroChanged = true →
      AnswersLaterEnding (.saveWriteEnd .metro verified) s x.who (responsePayload .fault .none [])
        [.store, .scale, .lamps, .journal] fun t => t.scale.op = opAfter s t ∧ t.scale.waiting = [] ∧
          t.store.savingMetro = none ∧ t.store.putOff = false ∧ t.store.storedMetro.contents = x.image
          ∧ metroGood t.store = false ∧ t.store.metroValid = false ∧ t.store.metroChanged = false
          ∧ t.store.metro = Metro.default ∧ t.store.counter = s.store.counter ∧ t.store.settings = s.store.settings
          ∧ t.scale.zero = none ∧ t.scale.zero0 = none ∧ t.scale.tare = none ∧ t.scale.window = [] ∧ t.scale.joined = 0
          ∧ t.scale.latest = none ∧ t.scale.weights = []
          ∧ t.scale.state = (match s.scale.state with
            | .off => .off
            | .fault => .fault
            | _ => .uncalibrated)
          ∧ Wrote [(operatorNumber s, .metroSaved x.count false)] s t)
    ∧ ∀ x, s.store.savingSettings = some x →
      AnswersLater (.saveWriteEnd .settings verified) s x.who
        (responsePayload (if verified then .ok else .fault) .none []) [.store, .journal] fun t =>
          t.store = { s.store with
            savingSettings := none
            storedSettings := t.store.storedSettings
            settingsValid := verified }
          ∧ t.store.storedSettings.contents = x.image ∧ settingsGood t.store = verified
          ∧ Wrote [(operatorNumber s, .settingsSaved verified)] s t)

/-- R195: the CAL switch. It closes: a put-off decision is dropped, and a capture in flight ends REJECTED/CAL_MODE (R56). It
opens with a METRO save in flight: the decision is put off. It opens otherwise: with the changed mark set RAM METRO is
reverted from the stored area if its check passes, else from the defaults, Z, Z0 and the tare go and the filter is cleared;
with the mark clear nothing more happens. An operation in flight that this revert ends is answered REJECTED/SCALE_STATE (R38,
R47, R56). That the check of the area alone decides (notes/assumptions/10.md) is the model's reading. -/
def Obligations.CalSwitchDecidesRevert : Prop :=
  ∀ s : State, s.power = .running → s.scale.waiting = [] →
    (s.pins.calClosed = false →
      ((∀ who f timer blocking, s.scale.op ≠ some (.weigh who f timer blocking)) →
        Happens (.calSwitchChange true) s [.pins, .store] fun t =>
          t.pins = { s.pins with calClosed := true } ∧ t.store = { s.store with putOff := false })
      ∧ ∀ who f timer blocking, s.scale.op = some (.weigh who f timer blocking) →
        AnswersLater (.calSwitchChange true) s who (responsePayload .rejected .calMode (plainFields who))
          [.pins, .store, .scale] fun t => t.pins = { s.pins with calClosed := true }
            ∧ t.store = { s.store with putOff := false } ∧ t.scale = { s.scale with op := none })
    ∧ (s.pins.calClosed = true → s.store.savingMetro ≠ none →
      Happens (.calSwitchChange false) s [.pins, .store] fun t =>
        t.pins = { s.pins with calClosed := false } ∧ t.store = { s.store with putOff := true })
    ∧ (s.pins.calClosed = true → s.store.savingMetro = none → s.store.metroChanged = false →
      Happens (.calSwitchChange false) s [.pins] fun t => t.pins = { s.pins with calClosed := false })
    ∧ (s.pins.calClosed = true → s.store.savingMetro = none → s.store.metroChanged = true →
      HappensEnding (.calSwitchChange false) s [.pins, .store, .scale, .lamps] fun t =>
        t.pins = { s.pins with calClosed := false } ∧ MetroLoaded s t)

/-- R198: the checks of RELOAD in their order; an accepted RELOAD loads the area as start-up does, makes RELOAD the last reset
kind, writes START and makes STARTUP owed. RELOAD of METRO clears the filter and unsets Z, Z0 and the tare; that it asks the
check of the area alone, not the counter cell's, is the model's reading (notes/assumptions/10.md). RELOAD of SETTINGS, whatever
items the load changes: the reader rate, the port enables and the lamp sources act through their owning rules (R22, R63, R67,
R153, R158, R189), in the order of notes/assumptions/39.md; an authorization held at a drawer port turned off is skipped, its
entry ahead of START; a change of the rate or the lane ID goes with the response (R1, R3), and the source with it
(notes/assumptions/31.md). The model's reading is also what is kept: the scale's reason (notes/assumptions/28.md), a lamp's
phase (notes/assumptions/45.md), a segment with no byte offered (notes/assumptions/51.md), a stopped poll timer
(notes/assumptions/52.md). An operation in flight ends REJECTED/SCALE_STATE where the scale leaves its state, but for a WEIGH
at SETTLING, which waits on with NOT_READY (R38, R47, R55, R56). With no SCALE request waiting; what the printer port does is
said with no job in the print order list. Usable metrology is R30's (notes/assumptions/6.md). -/
def Obligations.ReloadIsCheckedAndLoads : Prop :=
  ∀ (s : State) (tag : Nat), Admits s .mgmt tag → s.scale.waiting = [] →
    let who := asker s .mgmt 10 tag none
    let refused (a : Area) (result : Result) (reason : Reason) :=
      Completes (.reload tag (some a)) s who (responsePayload result reason []) none [] fun _ => True
    let loaded := if settingsGood s.store then s.store.storedSettings.contents else Settings.default
    let old := s.store.settings
    let startupOwed (t : State) :=
      t.link.owed.startup = true ∨ ∃ f, t.link.sending = some f ∧ f.origin = .notice .startup
    let rate (g : Settings) := if g.rateOverride ≠ 0 then g.rateOverride else 115200 * 2 ^ s.straps.lr
    let lane (g : Settings) := if g.laneOverride ≠ 0 then g.laneOverride else s.straps.lid + 1
    let same := old.rateOverride = loaded.rateOverride ∧ old.laneOverride = loaded.laneOverride
    (∀ a, s.ticket.current ≠ none → refused a .rejected .ticketState)
    ∧ (∀ a, s.ticket.current = none → printingJob s.print ≠ none → refused a .rejected .jobPrinting)
    ∧ (s.ticket.current = none → printingJob s.print = none →
      (s.store.savingMetro ≠ none → refused .metro .busy .none)
      ∧ (s.store.savingSettings ≠ none → refused .settings .busy .none)
      ∧ (s.store.savingSettings = none → s.store.settings.settingsLock = true → s.pins.calClosed = false →
        refused .settings .locked .none)
      ∧ (s.store.savingMetro = none →
        CompletesEnding (.reload tag (some .metro)) s who (responsePayload .ok .none (flag (metroGood s.store))) none
          [.store, .scale, .lamps, .journal] fun t => t.store.lastReset = .reload ∧ MetroLoaded s t ∧ startupOwed t
            ∧ Wrote [(operatorNumber s, .start .reload (metroGood s.store) s.store.settingsValid (some .metro))] s t)
      ∧ (s.store.savingSettings = none → (s.store.settings.settingsLock = false ∨ s.pins.calClosed = true) →
        s.straps.lr < 4 → (old.printerEnable ≠ loaded.printerEnable → s.print.order = []) →
        let skipped := match s.drawer.auth with
          | some a => if old.drawerEnable = true ∧ loaded.drawerEnable = false then [.drawerSkipped a.cause a.number] else []
          | none => []
        ∃ change, (same → change = none)
          ∧ (¬ same → ∃ x, change = some x ∧ x.rateOverride = (loaded.rateOverride != 0)
            ∧ x.laneOverride = (loaded.laneOverride != 0) ∧ x.rate.getD (rate old) = rate loaded
            ∧ x.lane.getD (lane old) = lane loaded)
          ∧ CompletesEnding (.reload tag (some .settings)) s who
          (responsePayload .ok .none (flag (settingsGood s.store))) change
          [.store, .journal, .card, .scale, .drawer, .lamps, .port] fun t =>
            t.store = { s.store with
              settings := loaded, settingsValid := settingsGood s.store, lastReset := .reload }
            ∧ ItemsActed old loaded s t ∧ startupOwed t
            ∧ Wrote ((skipped ++ [.start .reload s.store.metroValid (settingsGood s.store) (some .settings)]).map
              fun e => (operatorNumber s, e)) s t))

/-- R193: the calibration event counter never decreases, and advances by one exactly when a METRO SAVE is accepted; it keeps
its value through every reset and loss of supply, as its cell does. -/
def Obligations.CounterNeverDecreases : Prop :=
  ∀ s t, CounterInv s → step s = .next t →
    CounterInv t ∧ (t.store.counter = s.store.counter ∧ (s.store.savingMetro = none → t.store.savingMetro = none)
      ∨ t.store.counter = s.store.counter + 1 ∧ s.store.savingMetro = none ∧ t.store.savingMetro ≠ none)

/-! ## The Card Unit -/

/-- R64, R66, R68, R70 to R73, R77: a complete record is judged in the order of its steps; the first that fails gives the
outcome, recorded with what is known of the card and answered NAK. Of a record refused LENGTH with no more digits than its
entry keeps, R73 fixes only that one '*' stands in the masked form: which digits it shows is left free
(notes/assumptions/50.md). -/
def Obligations.RecordIsJudgedInOrder : Prop :=
  ∀ (s : State) (chars : List Byte) (lrc : Byte), s.power = .running → s.store.settings.cardEnable = true →
    s.card.assembler = .hunting → chars.length ≤ 48 → (∀ b ∈ chars, b ≠ 0x03#8) →
    let ends (o : CardOutcome) (cardClass : Option CardClass) (source : Option CardSource)
        (masked : Option (List Byte)) :=
      Happens (.readerRecord (0x02#8 :: (chars ++ [0x03#8, lrc]))) s [.card] fun t =>
        OutcomeRecorded o cardClass source masked s t ∧ t.card.slot = s.card.slot ∧ t.card.assembler = .hunting
          ∧ t.card.charTimer = none
    (lrc ≠ xorOf (chars ++ [0x03#8]) → ends .check none none none)
    ∧ (lrc = xorOf (chars ++ [0x03#8]) → (∀ so d e, ¬ CardForm chars so d e) → ends .format none none none)
    ∧ ∀ so d e, lrc = xorOf (chars ++ [0x03#8]) → CardForm chars so d e →
      ((∀ x ∈ s.store.settings.ranges, ¬ EntryHas x d) → ends .noRange none (some so) none)
      ∧ ∀ x, EntryOf s d x → ∃ masked, MaskOf x.keepFirst x.keepLast d masked ∧
        let refused (o : CardOutcome) := ends o (some x.cardClass) (some so) (some masked)
        let long := x.minLength ≤ d.length ∧ d.length ≤ x.maxLength
        let checked := x.checkDigit = true → luhnSum d % 10 = 0
        (¬ long → refused .length)
        ∧ (long → ¬ checked → refused .luhn)
        ∧ (long → checked → x.expiry = true → e = none → refused .format)
        ∧ ∀ ym now, long → checked → x.expiry = true → e = some ym → s.journal.clock = some now →
          expiredAt now ym = true → refused .expired

/-- R74, R75, R66, R73, R77: a record that passes its tests acts by its class on slot and ticket: PAYMENT and GIFT present
the card in an empty slot while the ticket is OPEN or TENDERING, LOYALTY attaches the masked form to a ticket that has none.
R76, R87, R90: a cashier card signs its number on or off, a supervisor card creates a grant and clears SUPERVISOR_NEEDED and
DRAWER_FORCED; the number is the last six account digits, and 0 is FORMAT. R84, R95: a notice frame that starts with the
presentation or the grant reports the whole time of the timer. The masked form is R73's (notes/assumptions/50.md). -/
def Obligations.CardsActByTheirClass : Prop :=
  (∀ (s : State) (chars : List Byte) (so : CardSource) (d : List Byte) (e : Option (List Byte)) (x : RangeEntry),
    PassesTests s chars so d e x → ∃ masked, MaskOf x.keepFirst x.keepLast d masked ∧
    let c : Instr := .readerRecord (0x02#8 :: (chars ++ [0x03#8, xorOf (chars ++ [0x03#8])]))
    let ends (o : CardOutcome) := OutcomeRecorded o (some x.cardClass) (some so) (some masked)
    let active := ∃ k, s.ticket.current = some k ∧ k.phase ≠ .settled
    ((x.cardClass = .payment ∨ x.cardClass = .gift) →
      (¬ active → Happens c s [.card] fun t => ends .noTicket s t ∧ t.card.slot = s.card.slot)
      ∧ (active → s.card.slot ≠ .empty → Happens c s [.card] fun t => ends .slotBusy s t ∧ t.card.slot = s.card.slot)
      ∧ (active → s.card.slot = .empty → Happens c s [.card] fun t => ends .presented s t
        ∧ t.card.slot = .presented ⟨x.cardClass, so, d, masked, e, s.journal.clock.getD 0⟩
          s.store.settings.slotLifetime
        ∧ ∀ f, s.link.sending = none → t.link.sending = some f → f.origin = .notice .cardState →
          f.payload = writeSnapshot s.store.settings.slotLifetime (snapshot t .cardState)))
    ∧ (x.cardClass = .loyalty →
      (¬ active → Happens c s [.card] fun t => ends .noTicket s t ∧ t.card.slot = s.card.slot)
      ∧ ∀ k, s.ticket.current = some k → k.phase ≠ .settled →
        (k.loyalty ≠ none → Happens c s [.card] fun t => ends .alreadyAttached s t ∧ t.card.slot = s.card.slot)
        ∧ (k.loyalty = none → Happens c s [.card, .ticket] fun t => ends .attached s t ∧ t.card.slot = s.card.slot
          ∧ t.ticket = { s.ticket with current := some { k with loyalty := some masked } })))
  ∧ (∀ (s : State) (chars : List Byte) (so : CardSource) (d : List Byte) (e : Option (List Byte)) (x : RangeEntry),
    PassesTests s chars so d e x → ∃ masked, MaskOf x.keepFirst x.keepLast d masked ∧
    let c : Instr := .readerRecord (0x02#8 :: (chars ++ [0x03#8, xorOf (chars ++ [0x03#8])]))
    let ends (o : CardOutcome) := fun t => OutcomeRecorded o (some x.cardClass) (some so) (some masked) s t
      ∧ t.card.slot = s.card.slot
    let n := digitsValue (d.drop (d.length - 6))
    ((x.cardClass = .cashier ∨ x.cardClass = .supervisor) → n = 0 → Happens c s [.card] (ends .format))
    ∧ (x.cardClass = .cashier → n ≠ 0 →
      (s.staff.operator = none → Happens c s [.card, .staff, .journal] fun t => ends .signedOn t
        ∧ t.staff = { s.staff with operator := some ⟨n, .card⟩ } ∧ Wrote [(n, .signOn .card)] s t)
      ∧ ∀ o, s.staff.operator = some o →
        (o.number ≠ n → Happens c s [.card] (ends .otherOperator))
        ∧ (o.number = n → s.ticket.current ≠ none → Happens c s [.card] (ends .ticketActive))
        ∧ (o.number = n → s.ticket.current = none → Happens c s [.card, .staff, .journal] fun t => ends .signedOff t
          ∧ t.staff = { s.staff with operator := none } ∧ Wrote [(n, .signOff .card)] s t))
    ∧ (x.cardClass = .supervisor → n ≠ 0 → Happens c s [.card, .staff, .lamps] fun t => ends .granted t
      ∧ t.staff = { s.staff with grant := some ⟨n, s.store.settings.grantWindow⟩ }
      ∧ t.lamps.reasons = s.lamps.reasons.filter (fun r => r != .supervisorNeeded && r != .drawerForced)
      ∧ (t.link.owed.operatorState = true ∨ ∃ f, t.link.sending = some f ∧ f.origin = .notice .operatorState)
      ∧ ∀ f, s.link.sending = none → t.link.sending = some f → f.origin = .notice .operatorState →
        f.payload = writeSnapshot s.store.settings.grantWindow (snapshot t .operatorState)))

/-- R64, R65: the 49th character makes a record overlong: outcome LONG and SKIPPING; in SKIPPING bytes are dropped without
an outcome up to the byte after an ETX. The character timer discards a record in BODY or AWAIT_LRC with TIMEOUT and ends
SKIPPING without an outcome. R66, R63: when the answer byte in transmission has been sent, the oldest queued answer starts
at the reader rate: the byte 0x06 for ACK, 0x15 for NAK. What these events do in states in which they cannot happen is the
model's choice (notes/assumptions/18.md), and so is that the rows carry their bytes (notes/assumptions/47.md). -/
def Obligations.RecordsAreDroppedAndAnswered : Prop :=
  ((∀ (s : State) (chars : List Byte), s.power = .running → s.store.settings.cardEnable = true →
    s.card.assembler = .hunting → chars.length = 49 → (∀ b ∈ chars, b ≠ 0x03#8) →
    Happens (.recordOverlong (0x02#8 :: chars)) s [.card] fun t => OutcomeRecorded .long none none none s t
      ∧ t.card.slot = s.card.slot ∧ t.card.assembler = .skipping false
      ∧ t.card.charTimer = some s.store.settings.readerLimit)
  ∧ (∀ (s : State) (tail : List Byte) (lrc : Byte), s.power = .running → s.store.settings.cardEnable = true →
    s.card.assembler = .skipping false → (∀ b ∈ tail, b ≠ 0x03#8) →
    Happens (.overlongRecordLrc (tail ++ [0x03#8, lrc])) s [.card] fun t =>
      t.card = { s.card with assembler := .hunting, charTimer := none })
  ∧ ∀ s : State, s.power = .running → s.card.charTimer ≠ none →
    match s.card.assembler with
    | .body _ => Happens .characterTimerExpiry s [.card] fun t => OutcomeRecorded .timeout none none none s t
        ∧ t.card.slot = s.card.slot ∧ t.card.assembler = .hunting ∧ t.card.charTimer = none
    | .awaitLrc _ => Happens .characterTimerExpiry s [.card] fun t => OutcomeRecorded .timeout none none none s t
        ∧ t.card.slot = s.card.slot ∧ t.card.assembler = .hunting ∧ t.card.charTimer = none
    | _ => Happens .characterTimerExpiry s [.card] fun t =>
        t.card = { s.card with assembler := .hunting, charTimer := none })
  ∧ (∀ s : State, s.power = .running →
    Happens .readerAnswerSent s [.card] fun t => t.card = { s.card with
      answers := s.card.answers.tail
      sending := s.card.answers.head?.map fun a => ⟨a, s.store.settings.readerRate⟩ }
      ∧ readerLine t.card = s.card.answers.head?.map fun a =>
        (if a = .ack then 0x06#8 else 0x15#8, s.store.settings.readerRate))

/-- R80 to R82: READ CARD answers the held card's fields and leaves the slot READ with its running timer; CLEAR CARD empties
it with outcome CLEARED; the lifetime's expiry empties it with SLOT_EXPIRED, neither answered to the reader. With the slot
EMPTY both requests are answered NOT_FOUND. -/
def Obligations.SlotIsReadClearedAndExpires : Prop :=
  ∀ (s : State) (tag : Nat),
    (Admits s .pay tag → s.card.slot = .empty →
      Completes (.readCard tag (some ())) s (asker s .pay 1 tag none) (responsePayload .notFound .none []) none []
        (fun _ => True)
      ∧ Completes (.clearCard tag (some ())) s (asker s .pay 2 tag none) (responsePayload .notFound .none []) none []
        fun _ => True)
    ∧ ∀ k timer, (s.card.slot = .presented k timer ∨ s.card.slot = .read k timer) →
      let emptied (o : CardOutcome) (t : State) :=
        let n := if s.card.outcomeNumber = 255 then 1 else s.card.outcomeNumber + 1
        t.card = { s.card with
          slot := .empty
          outcomeNumber := n
          last := some ⟨n, o, some k.cardClass, some k.source, some k.masked⟩ }
      (Admits s .pay tag →
        Completes (.readCard tag (some ())) s (asker s .pay 1 tag none)
          (responsePayload .ok .none
            (string k.digits ++ u8 (cardSourceCode k.source) ++ u8 (cardClassCode k.cardClass)
              ++ optional string k.expiry ++ u32 k.presented)) none [.card]
          (fun t => t.card = { s.card with slot := .read k timer })
        ∧ Completes (.clearCard tag (some ())) s (asker s .pay 2 tag none) (responsePayload .ok .none []) none [.card]
          (emptied .cleared))
      ∧ (s.power = .running → Happens .slotLifetimeExpiry s [.card] (emptied .slotExpired))

/-! ## The Operator Unit -/

/-- R88, R89, R91: the checks of SIGN ON and SIGN OFF in their order, malformed requests first, the operator state and the
journal entry of each; both leave the grant as it is; the expiry of the grant timer leaves no grant and the reason set as
it is, and makes OPERATOR_STATE owed. With no grant held its timer does not run, and that the expiry then changes nothing is
the model's choice (notes/assumptions/18.md). -/
def Obligations.OperatorSignsOnAndOff : Prop :=
  ∀ (s : State) (tag : Nat),
    (Admits s .ticket tag →
      Completes (.signOn tag none) s (asker s .ticket 14 tag none) (responsePayload .badField .none []) none []
        (fun _ => True)
      ∧ Completes (.signOff tag none) s (asker s .ticket 15 tag none) (responsePayload .badField .none []) none []
        fun _ => True)
    ∧ (∀ n, Admits s .ticket tag →
      let c : Instr := .signOn tag (some n)
      let who := asker s .ticket 14 tag none
      if n = 0 ∨ 999999 < n then Completes c s who (responsePayload .badField .none []) none [] fun _ => True
      else if s.store.settings.cardSignOn = true then
        Completes c s who (responsePayload .rejected .cardRequired []) none [] fun _ => True
      else if s.staff.operator ≠ none then
        Completes c s who (responsePayload .rejected .signedOn []) none [] fun _ => True
      else Completes c s who (responsePayload .ok .none (u32 n)) none [.staff, .journal] fun t =>
        t.staff = { s.staff with operator := some ⟨n, .link⟩ } ∧ Wrote [(n, .signOn .link)] s t)
    ∧ (Admits s .ticket tag →
      let c : Instr := .signOff tag (some ())
      let who := asker s .ticket 15 tag none
      match s.staff.operator with
      | none => Completes c s who (responsePayload .rejected .noOperator []) none [] fun _ => True
      | some o =>
        if s.ticket.current ≠ none then
          Completes c s who (responsePayload .rejected .ticketState []) none [] fun _ => True
        else Completes c s who (responsePayload .ok .none (u32 o.number)) none [.staff, .journal] fun t =>
          t.staff = { s.staff with operator := none } ∧ Wrote [(o.number, .signOff .link)] s t)
    ∧ (s.power = .running →
      Happens .grantTimerExpiry s [.staff] fun t => t.staff = { s.staff with grant := none }
        ∧ (s.staff.grant ≠ none → Notifies .operatorState s t))

/-! ## Tables of the SETTINGS area -/

/-- R50, R51: TARE SET replaces its entry with the value given, unrounded, refused LOCKED with the settings lock on and BUSY
during a save of SETTINGS; TARE READ answers the RAM entry. R78: the checks of RANGE INSERT in their order; an accepted
entry is placed before the first entry with a greater low bound, or at the end, and its index and the number held are
answered. R79: RANGE DELETE removes the entry with exactly its low bound, else NOT_FOUND; RANGE CLEAR removes every entry;
both after the LOCKED and BUSY checks. RANGE READ answers the entry at an index in the field order of RANGE INSERT, or
NOT_FOUND, with the number of entries, whatever the lock and any save. The number of entries in the responses of RANGE DELETE
and RANGE READ is one byte, which the manual leaves open (notes/assumptions/33.md). -/
def Obligations.TareAndRangeTablesAreEdited : Prop :=
  (∀ (s : State) (tag : Nat) (f : TareFields), Admits s .mgmt tag → 1 ≤ f.code → f.code ≤ 32 →
    (∀ v, f.value = some v → 1 ≤ v ∧ v ≤ 60000) →
    let who := asker s .mgmt 12 tag none
    let c : Instr := .tareSet tag (some f)
    (if s.store.settings.settingsLock = true then Completes c s who (responsePayload .locked .none []) none [] fun _ => True
      else if s.store.savingSettings ≠ none then
        Completes c s who (responsePayload .busy .none []) none [] fun _ => True
      else Completes c s who (responsePayload .ok .none []) none [.store] fun t =>
        t.store = { s.store with
          settings := { s.store.settings with tares := s.store.settings.tares.set (f.code - 1) f.value } })
    ∧ ∀ entry, s.store.settings.tares[f.code - 1]? = some entry →
      Completes (.tareRead tag (some f.code)) s (asker s .mgmt 13 tag none)
        (responsePayload .ok .none (optional u32 entry)) none [] fun _ => True)
  ∧ (∀ (s : State) (tag : Nat) (e : RangeEntry), Admits s .mgmt tag →
    let c : Instr := .rangeInsert tag (some e)
    let refused (result : Result) (reason : Reason) :=
      Completes c s (asker s .mgmt 14 tag none) (responsePayload result reason []) none [] fun _ => True
    let inRange := e.low ≤ e.high ∧ e.high ≤ 99999999 ∧ 12 ≤ e.minLength ∧ e.minLength ≤ e.maxLength ∧ e.maxLength ≤ 19
      ∧ e.keepFirst ≤ 8 ∧ e.keepLast ≤ 4 ∧ e.keepFirst + e.keepLast < e.minLength
    let overlap := ∃ x ∈ s.store.settings.ranges, ∃ p, x.low ≤ p ∧ p ≤ x.high ∧ e.low ≤ p ∧ p ≤ e.high
    (¬ inRange → refused .badField .none)
    ∧ (inRange → s.store.settings.settingsLock = true → refused .locked .none)
    ∧ (inRange → s.store.settings.settingsLock = false → s.store.savingSettings ≠ none → refused .busy .none)
    ∧ (inRange → s.store.settings.settingsLock = false → s.store.savingSettings = none →
      (∀ x ∈ s.store.settings.ranges, x.low ≤ x.high) →
      (overlap → refused .rejected .overlap)
      ∧ (¬ overlap → 64 ≤ s.store.settings.ranges.length → refused .full .none)
      ∧ ∀ before after, ¬ overlap → s.store.settings.ranges.length < 64 → s.store.settings.ranges = before ++ after →
        (∀ x ∈ before, x.low ≤ e.low) → (∀ x ∈ after.head?, e.low < x.low) →
        Completes c s (asker s .mgmt 14 tag none)
          (responsePayload .ok .none (u8 before.length ++ u8 (s.store.settings.ranges.length + 1))) none [.store]
          fun t => t.store = { s.store with
            settings := { s.store.settings with ranges := before ++ e :: after } }))
  ∧ (∀ (s : State) (tag n : Nat), Admits s .mgmt tag → n ≤ 99999999 →
    let rs := s.store.settings.ranges
    let ranges (xs : List RangeEntry) (t : State) := t.store = { s.store with
      settings := { s.store.settings with ranges := xs } }
    let free := s.store.settings.settingsLock = false ∧ s.store.savingSettings = none
    let both (result : Result) :=
      Completes (.rangeDelete tag (some n)) s (asker s .mgmt 15 tag none) (responsePayload result .none []) none []
        (fun _ => True)
      ∧ Completes (.rangeClear tag (some ())) s (asker s .mgmt 17 tag none) (responsePayload result .none []) none []
        fun _ => True
    (s.store.settings.settingsLock = true → both .locked)
    ∧ (s.store.settings.settingsLock = false → s.store.savingSettings ≠ none → both .busy)
    ∧ (free → (∀ x ∈ rs, x.low ≠ n) →
      Completes (.rangeDelete tag (some n)) s (asker s .mgmt 15 tag none) (responsePayload .notFound .none []) none []
        fun _ => True)
    ∧ (∀ before e after, free → rs = before ++ e :: after → e.low = n →
      (∀ x ∈ before, x.low ≠ n) → (∀ x ∈ after, x.low ≠ n) →
      Completes (.rangeDelete tag (some n)) s (asker s .mgmt 15 tag none)
        (responsePayload .ok .none (u8 (rs.length - 1))) none [.store] (ranges (before ++ after)))
    ∧ (free → Completes (.rangeClear tag (some ())) s (asker s .mgmt 17 tag none) (responsePayload .ok .none []) none
      [.store] (ranges []))
    ∧ (n ≤ 63 →
      (∀ e, rs[n]? = some e →
        Completes (.rangeRead tag (some n)) s (asker s .mgmt 16 tag none)
          (responsePayload .ok .none
            (u8 rs.length ++ u32 e.low ++ u32 e.high ++ u8 e.minLength ++ u8 e.maxLength
              ++ u8 (cardClassCode e.cardClass) ++ flag e.checkDigit ++ flag e.expiry ++ u8 e.keepFirst
              ++ u8 e.keepLast)) none [] fun _ => True)
      ∧ (rs.length ≤ n →
        Completes (.rangeRead tag (some n)) s (asker s .mgmt 16 tag none)
          (responsePayload .notFound .none (u8 rs.length)) none [] fun _ => True)))

/-! ## The Ticket Unit -/

/-- R98, R99, R100: the checks of OPEN TICKET in their order, the record it creates, the advance of the next ticket number
and the TICKET_STATE notice owed; SET NEXT TICKET gives that number in IDLE alone. Payload bytes make OPEN TICKET BAD_FIELD,
a number outside 1..999,999 SET NEXT TICKET. R108: TOTAL CHECK in IDLE and SETTLED is REJECTED/TICKET_STATE; in OPEN and
TENDERING it answers the total, the difference and the flag after the check, and stores that flag; TICKET_STATE becomes owed
if the flag has changed and not otherwise; a total outside its range is BAD_FIELD. -/
def Obligations.OpenTicketCreatesTicket : Prop :=
  (∀ (s : State) (tag n : Nat), Admits s .ticket tag →
    let c : Instr := .openTicket tag (some ())
    let who := asker s .ticket 1 tag none
    let refused (reason : Reason) := Completes c s who (responsePayload .rejected reason []) none [] fun _ => True
    let opened (o : Operator) := Completes c s who (responsePayload .ok .none (u32 s.ticket.next ++ u32 o.number)) none
      [.ticket] fun t => t.ticket.next = (if s.ticket.next = 999999 then 1 else s.ticket.next + 1)
        ∧ (t.link.owed.ticketState = true ∨ ∃ f, t.link.sending = some f ∧ f.origin = .notice .ticketState)
        ∧ ∃ k, t.ticket.current = some k ∧ k.phase = .opened ∧ k.number = s.ticket.next ∧ k.operator = o.number
          ∧ k.loyalty = none ∧ k.lines = [] ∧ k.tenders = [] ∧ k.total = 0 ∧ k.rounding = 0 ∧ k.change = 0
          ∧ k.checkMatched = false ∧ k.authorizationRaised = false ∧ k.receiptWaived = false ∧ k.forced = false
    (if s.ticket.current ≠ none then refused .ticketState
      else match s.staff.operator with
        | none => refused .noOperator
        | some o =>
          if s.drawer.auth ≠ none then refused .drawerBusy
          else if s.store.settings.closedDrawer = true ∧ s.drawer.state ≠ .closed then refused .drawerOpen
          else opened o)
    ∧ Completes (.openTicket tag none) s who (responsePayload .badField .none []) none [] (fun _ => True)
    ∧ (n = 0 ∨ 999999 < n →
      Completes (.setNextTicket tag (some n)) s (asker s .ticket 2 tag none) (responsePayload .badField .none []) none []
        fun _ => True)
    ∧ (1 ≤ n → n ≤ 999999 → s.ticket.current ≠ none →
      Completes (.setNextTicket tag (some n)) s (asker s .ticket 2 tag none)
        (responsePayload .rejected .ticketState []) none [] fun _ => True)
    ∧ (1 ≤ n → n ≤ 999999 → s.ticket.current = none →
      Completes (.setNextTicket tag (some n)) s (asker s .ticket 2 tag none) (responsePayload .ok .none (u32 n)) none
        [.ticket] fun t => t.ticket = ⟨none, n⟩))
  ∧ ∀ (s : State) (tag : Nat) (z : Int), Admits s .ticket tag →
    let check := Completes (.totalCheck tag (some z)) s (asker s .ticket 6 tag none)
    (z < -9999999999 ∨ 9999999999 < z → check (responsePayload .badField .none []) none [] fun _ => True)
    ∧ (-9999999999 ≤ z → z ≤ 9999999999 →
      match s.ticket.current with
      | none => check (responsePayload .rejected .ticketState []) none [] fun _ => True
      | some k =>
        (k.phase = .settled → check (responsePayload .rejected .ticketState []) none [] fun _ => True)
        ∧ (k.phase ≠ .settled →
          check (responsePayload .ok .none (i64 k.total ++ i64 (z - k.total) ++ flag (decide (z = k.total)))) none [.ticket]
            fun t => t.ticket = { s.ticket with current := some { k with checkMatched := decide (z = k.total) } }
              ∧ (k.checkMatched ≠ decide (z = k.total) → Notifies .ticketState s t)
              ∧ (k.checkMatched = decide (z = k.total) → t.link.owed.ticketState = true →
                s.link.owed.ticketState = true)))

/-- R104: the checks of KEYED LINE in their order; an accepted one appends its line with the next line number, adds its amount
to the total and clears the check-matched flag. R107: READ LINE answers the line's fields in their order and changes nothing.
A field outside its range makes either of the two BAD_FIELD. -/
def Obligations.KeyedLinesAndTheTotal : Prop :=
  (∀ (s : State) (tag : Nat) (f : KeyedFields), Admits s .ticket tag → f.item ≤ 999999999 →
    (∀ q, f.quantity = some q → 1 ≤ q ∧ q ≤ 9999) → -999999999 ≤ f.amount → f.amount ≤ 999999999 →
    let c : Instr := .keyedLine tag (some f)
    let who := asker s .ticket 3 tag none
    let refused (result : Result) (reason : Reason) :=
      Completes c s who (responsePayload result reason []) none [] fun _ => True
    match s.ticket.current with
    | none => refused .rejected .ticketState
    | some k =>
      if k.phase ≠ .opened then refused .rejected .ticketState
      else if 99 ≤ k.lines.length then refused .full .none
      else if k.total + f.amount < -9999999999 ∨ 9999999999 < k.total + f.amount then refused .limit .none
      else Completes c s who (responsePayload .ok .none (u8 (k.lines.length + 1) ++ i64 (k.total + f.amount))) none
        [.ticket] fun t => t.ticket = { s.ticket with current := some { k with
          lines := k.lines ++ [⟨k.lines.length + 1, f.item, f.amount, false, .keyed f.quantity⟩]
          total := k.total + f.amount
          checkMatched := false } })
  ∧ (∀ (s : State) (tag n : Nat), Admits s .ticket tag → 1 ≤ n → n ≤ 99 →
    let read (result : Result) (reason : Reason) (fields : List Byte) := Completes (.readLine tag (some n)) s
      (asker s .ticket 5 tag none) (responsePayload result reason fields) none [] fun _ => True
    match s.ticket.current with
    | none => read .rejected .ticketState []
    | some k =>
      ((∀ x ∈ k.lines, x.number ≠ n) → read .notFound .none [])
      ∧ (∀ before l after, k.lines = before ++ l :: after → l.number = n → (∀ x ∈ before, x.number ≠ n) →
        read .ok .none (u8 n ++ match l.body with
          | .weighed p => u8 0 ++ u32 l.item ++ u8 0 ++ i32 l.amount ++ flag l.voided ++ u8 1 ++ i32 p.net ++ i32 p.gross
            ++ u32 p.tare ++ u32 p.price ++ u8 (priceBaseCode p.base) ++ u16 p.record ++ u32 p.calCount ++ u8 0
          | .keyed q => u8 1 ++ u32 l.item ++ optional u16 q ++ i32 l.amount ++ flag l.voided ++ u8 0 ++ u8 0
          | .void m => u8 2 ++ u32 l.item ++ u8 0 ++ i32 l.amount ++ flag l.voided ++ u8 0 ++ u8 1 ++ u8 m)))
  ∧ ∀ (s : State) (tag : Nat) (f : KeyedFields) (n : Nat), Admits s .ticket tag →
    let unusable (c : Instr) (kind : Nat) :=
      Completes c s (asker s .ticket kind tag none) (responsePayload .badField .none []) none [] fun _ => True
    (999999999 < f.item ∨ (∃ q, f.quantity = some q ∧ (q = 0 ∨ 9999 < q)) ∨ f.amount < -999999999 ∨ 999999999 < f.amount →
      unusable (.keyedLine tag (some f)) 3)
    ∧ (n = 0 ∨ 99 < n → unusable (.readLine tag (some n)) 5)

/-- R106: the checks of VOID LINE in their order, a number outside 1..99 BAD_FIELD; an accepted one marks its target voided and
appends a VOID line of the amount negated. A WEIGHED target needs the grant: consumed with GRANT_USED, or NO_GRANT with
SUPERVISOR_NEEDED raised. -/
def Obligations.VoidLineCancelsItsTarget : Prop :=
  ∀ (s : State) (tag n : Nat), Admits s .ticket tag →
    let c : Instr := .voidLine tag (some n)
    let who := asker s .ticket 4 tag none
    let refused (result : Result) (reason : Reason) :=
      Completes c s who (responsePayload result reason []) none [] fun _ => True
    if ¬ (1 ≤ n ∧ n ≤ 99) then refused .badField .none
    else match s.ticket.current with
    | none => refused .rejected .ticketState
    | some k =>
      (k.phase ≠ .opened → refused .rejected .ticketState)
      ∧ (k.phase = .opened → (∀ x ∈ k.lines, x.number ≠ n) → refused .notFound .none)
      ∧ ∀ before l after, k.phase = .opened → k.lines = before ++ l :: after → l.number = n →
        (∀ x ∈ before ++ after, x.number ≠ n) →
        let voidable := l.voided = false ∧ ∀ m, l.body ≠ .void m
        let fits := -9999999999 ≤ k.total - l.amount ∧ k.total - l.amount ≤ 9999999999
        let weighed := ∃ p, l.body = .weighed p
        let appended (parts : List Part) (post : State → Prop) :=
          Completes c s who (responsePayload .ok .none (u8 (k.lines.length + 1) ++ i64 (k.total - l.amount))) none
            (.ticket :: parts) fun t => post t ∧ t.ticket = { s.ticket with current := some { k with
              lines := before ++ { l with voided := true } :: after
                ++ [⟨k.lines.length + 1, l.item, -l.amount, false, .void n⟩]
              total := k.total - l.amount
              checkMatched := false } }
        (¬ voidable → refused .rejected .notVoidable)
        ∧ (voidable → 99 ≤ k.lines.length → refused .full .none)
        ∧ (voidable → k.lines.length < 99 → ¬ fits → refused .limit .none)
        ∧ (voidable → k.lines.length < 99 → fits → ¬ weighed → appended [] fun _ => True)
        ∧ (voidable → k.lines.length < 99 → fits → weighed → s.staff.grant = none →
          Completes c s who (responsePayload .noGrant .none []) none [.lamps] (Raised .supervisorNeeded s))
        ∧ ∀ g, voidable → k.lines.length < 99 → fits → weighed → s.staff.grant = some g →
          appended [.staff, .journal] fun t => t.staff = { s.staff with grant := none }
            ∧ Wrote [(operatorNumber s, .grantUsed .voidLine g.supervisor)] s t

/-- R111, R112, R113: ABANDON by ticket state. Keyed lines alone need no grant; a WEIGHED line, or TENDERING, needs one; a
CARD or GIFT tender refuses it. An accepted ABANDON journals GRANT_USED first if a grant was consumed, then
TICKET_ABANDONED, empties the slot, discards the record and leaves no job bound to the ticket. The clauses that give the
whole state have nothing in the print queue. -/
def Obligations.AbandonEndsTheTicket : Prop :=
  ∀ (s : State) (tag : Nat), Admits s .ticket tag →
    let c : Instr := .abandon tag (some ())
    let who := asker s .ticket 7 tag none
    let refused (reason : Reason) := Completes c s who (responsePayload .rejected reason []) none [] fun _ => True
    match s.ticket.current with
    | none => refused .ticketState
    | some k =>
      let weighed := ∃ l ∈ k.lines, ∃ p, l.body = .weighed p
      let card := ∃ x ∈ k.tenders, x.kind = .card ∨ x.kind = .gift
      let free := k.phase = .opened ∧ ¬ weighed
      let granted := k.phase = .opened ∧ weighed ∨ k.phase = .tendering ∧ ¬ card
      let ended (entries : List (Nat × EntryBody)) (t : State) := t.ticket = { s.ticket with current := none }
        ∧ t.card = { s.card with slot := .empty } ∧ Wrote entries s t
      let abandoned (supervisor : Option Nat) : Nat × EntryBody :=
        (k.operator, .ticketAbandoned k.number k.total k.lines.length .request supervisor)
      (k.phase = .settled → refused .ticketState)
      ∧ (k.phase = .tendering → card → refused .cardTendered)
      ∧ (granted → s.staff.grant = none →
        Completes c s who (responsePayload .noGrant .none []) none [.lamps] (Raised .supervisorNeeded s))
      ∧ (free → NoPrinting s →
        Completes c s who (responsePayload .ok .none (u32 k.number)) none [.ticket, .card, .journal]
          (ended [abandoned none]))
      ∧ (∀ g, granted → s.staff.grant = some g → NoPrinting s →
        Completes c s who (responsePayload .ok .none (u32 k.number)) none [.ticket, .card, .journal, .staff]
          fun t => t.staff = { s.staff with grant := none }
            ∧ ended [(operatorNumber s, .grantUsed .abandon g.supervisor), abandoned (some g.supervisor)] t)
      ∧ (free ∨ granted ∧ s.staff.grant ≠ none →
        ∃ t, exec c s = .next t ∧ t.ticket.current = none ∧ ∀ j ∈ t.print.jobs, j.ticket ≠ some k.number)

/-- R118 to R121: the checks of the four tenders in their order: state, total check, negative total, the amount against
the due (CASH against the rounded due), a tender that does not settle where seven are already held, and for CARD and GIFT
the slot. -/
def Obligations.TendersAreCheckedInOrder : Prop :=
  ∀ (s : State) (tag : Nat) (kind : TenderKind) (amount : Nat) (reference : List Byte), Admits s .ticket tag →
    amount ≤ 9999999999 → (kind ≠ .cash → 1 ≤ amount ∧ 1 ≤ reference.length ∧ reference.length ≤ 12
      ∧ ∀ b ∈ reference, printable b = true) →
    let c : Instr := match kind with
      | .cash => .cash tag (some amount)
      | .card => .card tag (some ⟨amount, reference⟩)
      | .gift => .gift tag (some ⟨amount, reference⟩)
      | .other => .other tag (some ⟨amount, reference⟩)
    let row := match kind with
      | .cash => 8
      | .card => 9
      | .gift => 10
      | .other => 11
    let refused (result : Result) (reason : Reason) :=
      Completes c s (asker s .ticket row tag none) (responsePayload result reason []) none [] fun _ => True
    match s.ticket.current with
    | none => refused .rejected .ticketState
    | some k =>
      let due := k.total - ((k.tenders.map fun x => x.amount).sum : Nat)
      let step := s.store.settings.roundingStep
      let rounded := (2 * due + step) / (2 * step) * step
      let fails := if kind = .cash then amount < rounded ∧ (amount = 0 ∨ due ≤ amount) else due < amount
      let settles := if kind = .cash then rounded ≤ amount else due = amount
      let unchecked := s.store.settings.totalCheck = true ∧ k.checkMatched = false
      let reaches := k.phase ≠ .settled ∧ ¬ unchecked ∧ 0 ≤ k.total ∧ ¬ fails ∧ (k.tenders.length < 7 ∨ settles)
      (k.phase = .settled → refused .rejected .ticketState)
      ∧ (k.phase ≠ .settled → unchecked → refused .rejected .totalUnchecked)
      ∧ (k.phase ≠ .settled → ¬ unchecked → k.total < 0 → refused .rejected .negativeTotal)
      ∧ (k.phase ≠ .settled → ¬ unchecked → 0 ≤ k.total → fails → refused .badField .none)
      ∧ (k.phase ≠ .settled → ¬ unchecked → 0 ≤ k.total → ¬ fails → 7 ≤ k.tenders.length → ¬ settles →
        refused .full .none)
      ∧ (reaches → kind = .card ∨ kind = .gift →
        (s.card.slot = .empty → refused .rejected .noCard)
        ∧ (∀ h timer, s.card.slot = .presented h timer → refused .rejected .cardNotRead)
        ∧ ∀ h timer, s.card.slot = .read h timer →
          h.cardClass ≠ (if kind = .card then .payment else .gift) → refused .rejected .cardClass)

/-- R119 to R124: an accepted tender. One that does not settle leaves the ticket in TENDERING with the rest due. One that
settles makes it SETTLED with the rounding adjustment and the change, and with cash taken raises the drawer authorization:
the first pulse in CLOSED, consumed in OPEN, skipped in DISABLED. A CARD or GIFT tender empties the slot and keeps the
masked form. The settling clause has nothing in the print queue. R123, R125, R173: settlement, here by an OTHER tender of
the whole due, releases the printing job HELD on a final field of the ticket: it enters STALLED with a stall reason, else
PRINTING, and in both the field is rendered at that moment, with PRINTED_TOTAL set by TOTAL, and handed to the port, where it
waits while the stall reason is held or a status read is in progress (R182). Each line of the field has its own NORMAL style
command (notes/assumptions/26.md). -/
def Obligations.AcceptedTenderPaysOrSettles : Prop :=
  (∀ (s : State) (tag : Nat) (kind : TenderKind) (amount : Nat) (reference : List Byte) (k : Ticket)
    (masked : Option (List Byte)), Admits s .ticket tag → amount ≤ 9999999999 →
    (kind ≠ .cash → 1 ≤ amount ∧ 1 ≤ reference.length ∧ reference.length ≤ 12 ∧ ∀ b ∈ reference, printable b = true) →
    s.ticket.current = some k → k.phase ≠ .settled → (s.store.settings.totalCheck = true → k.checkMatched = true) →
    0 ≤ k.total →
    (if kind = .card ∨ kind = .gift then ∃ h timer, s.card.slot = .read h timer ∧ masked = some h.masked
      ∧ h.cardClass = (if kind = .card then .payment else .gift) else masked = none) →
    let c : Instr := match kind with
      | .cash => .cash tag (some amount)
      | .card => .card tag (some ⟨amount, reference⟩)
      | .gift => .gift tag (some ⟨amount, reference⟩)
      | .other => .other tag (some ⟨amount, reference⟩)
    let row := match kind with
      | .cash => 8
      | .card => 9
      | .gift => 10
      | .other => 11
    let due := k.total - ((k.tenders.map fun x => x.amount).sum : Nat)
    let step := s.store.settings.roundingStep
    let rounded := if kind = .cash then (2 * due + step) / (2 * step) * step else due
    let tenders := k.tenders ++ [⟨kind, amount, if kind = .cash then none else some reference, masked⟩]
    let slot := if kind = .card ∨ kind = .gift then .empty else s.card.slot
    let answer (state : Nat) (left rounding change : Int) :=
      responsePayload .ok .none (u8 tenders.length ++ u8 state ++ i64 left ++ i64 rounding ++ u64 change.toNat)
    (PrintQuiet s → (amount : Int) < rounded → 1 ≤ amount → (amount : Int) < due → k.tenders.length < 7 →
      Completes c s (asker s .ticket row tag none) (answer 2 (due - amount) 0 0) none [.ticket, .card] fun t =>
        t.ticket = { s.ticket with current := some { k with phase := .tendering, tenders := tenders } }
          ∧ t.card = { s.card with slot := slot })
    ∧ (NoPrinting s → holdsAuth s.drawer.state = false → k.receiptWaived = false →
      (if kind = .cash then rounded ≤ amount else due = amount) →
      let cash := decide (0 < paid true tenders)
      Completes c s (asker s .ticket row tag none) (answer 3 0 (rounded - due) (amount - rounded)) none
        [.ticket, .card, .drawer, .journal] fun t =>
          t.card = { s.card with slot := slot }
          ∧ (∃ d, (d = true ↔ DrawerMet t k.number) ∧ t.ticket = { s.ticket with current := some { k with
            phase := .settled
            tenders := tenders
            rounding := rounded - due
            change := amount - rounded
            authorizationRaised := cash
            receiptLatch := false
            receiptMet := false
            jobsMet := true
            drawerMet := d } })
          ∧ (cash = false → t.drawer = s.drawer ∧ Wrote [] s t)
          ∧ (cash = true → s.drawer.state = .closed → Wrote [] s t ∧ t.drawer = { s.drawer with
            auth := some ⟨.cash, k.number⟩
            attempts := 1
            state := .unlatching
            pulseTimer := some s.store.settings.pulseWidth })
          ∧ (cash = true → s.drawer.state = .opened → t.drawer = { s.drawer with auth := none, attempts := 0 }
            ∧ Wrote [(operatorNumber s, .drawerOpened .cash k.number false true 0)] s t)
          ∧ (cash = true → s.drawer.state = .disabled → t.drawer = { s.drawer with auth := none, attempts := 0 }
            ∧ Wrote [(operatorNumber s, .drawerSkipped .cash k.number)] s t)))
  ∧ (∀ (s : State) (tag amount : Nat) (reference : List Byte) (k : Ticket) (before after : List Job) (j : Job),
    Admits s .ticket tag → amount ≤ 9999999999 → 1 ≤ amount → 1 ≤ reference.length → reference.length ≤ 12 →
    (∀ b ∈ reference, printable b = true) → s.ticket.current = some k → k.phase ≠ .settled →
    (s.store.settings.totalCheck = true → k.checkMatched = true) → 0 ≤ k.total → k.receiptWaived = false →
    k.total - ((k.tenders.map fun x => x.amount).sum : Nat) = amount → paid true k.tenders = 0 →
    Printing s before j after .held → j.ticket = some k.number →
    let c : Instr := .other tag (some ⟨amount, reference⟩)
    let settled := { k with
      phase := .settled, tenders := k.tenders ++ [⟨.other, amount, some reference, none⟩], rounding := 0, change := 0 }
    ∀ field n ls, segmentAt j = some (.insert field n) → isFinal field = true → InsertText s settled field n ls →
      s.port.segment = none →
      let rendered (state : JobState) := ∃ t, exec c s = .next t
        ∧ t.print = { s.print with jobs := before ++ { j with
          state := state, printedTotal := j.printedTotal || field == .total, restart := false } :: after }
        ∧ t.port = { s.port with
          segment := some ⟨.bytes (insertBytes s.store.settings.printWidth ls), false, [], [], false, 0⟩ }
      (∀ r, j.stall = some r → s.port.stall = some r → PrintQuiet s → rendered .stalled)
      ∧ (j.stall = none → s.port.current = none → s.port.stopping = false → s.port.mode = .status →
        s.port.reading ≠ none → rendered .printing))

/-- R126 to R130: WAIVE RECEIPT sets the waiver and evaluates the conditions, with a grant where a WEIGHED line that is not
voided stands; FORCE CLOSE consumes its grant, drops the ticket's authorization and closes the ticket whatever its
conditions, leaving no job bound to it. The clauses that give the whole state have nothing due at the printing side. -/
def Obligations.SettledTicketIsWaivedOrForced : Prop :=
  ∀ (s : State) (tag : Nat), Admits s .ticket tag →
    let waive := Completes (.waiveReceipt tag (some ())) s (asker s .ticket 12 tag none)
    let force := Completes (.forceClose tag (some ())) s (asker s .ticket 13 tag none)
    let rejected := responsePayload .rejected .ticketState []
    match s.ticket.current with
    | none => waive rejected none [] (fun _ => True) ∧ force rejected none [] fun _ => True
    | some k =>
      let receipt := k.receiptLatch = true ∨ k.receiptWaived = true
      let weighed := ∃ l ∈ k.lines, l.voided = false ∧ ∃ p, l.body = .weighed p
      let number := operatorNumber s
      (k.phase ≠ .settled → waive rejected none [] (fun _ => True) ∧ force rejected none [] fun _ => True)
      ∧ (k.phase = .settled → receipt → waive rejected none [] fun _ => True)
      ∧ (k.phase = .settled → s.staff.grant = none →
        (¬ receipt → weighed → waive (responsePayload .noGrant .none []) none [.lamps] (Raised .supervisorNeeded s))
        ∧ force (responsePayload .noGrant .none []) none [.lamps] (Raised .supervisorNeeded s))
      ∧ (k.phase = .settled → ¬ receipt → PrintQuiet s → ∀ closed : Bool,
        (closed = true ↔ JobsMet s k.number ∧ DrawerMet s k.number) →
        (¬ weighed → waive (responsePayload .ok .none (flag closed)) none [.ticket, .card, .journal]
          (Judged { k with receiptWaived := true } [] s))
        ∧ ∀ g, weighed → s.staff.grant = some g →
          waive (responsePayload .ok .none (flag closed)) none [.ticket, .card, .journal, .staff] fun t =>
            t.staff = { s.staff with grant := none }
              ∧ Judged { k with receiptWaived := true } [(number, .grantUsed .waiveReceipt g.supervisor)] s t)
      ∧ ∀ g, k.phase = .settled → s.staff.grant = some g →
        let held := k.authorizationRaised = true ∧ s.drawer.auth = some ⟨.cash, k.number⟩
        (NoPrinting s → ¬ held →
          force (responsePayload .ok .none (u32 k.number)) none [.ticket, .card, .journal, .staff] fun t =>
            t.staff = { s.staff with grant := none }
              ∧ TicketClosed { k with forced := true } [(number, .grantUsed .forceClose g.supervisor)] s t)
        ∧ (NoPrinting s → held →
          force (responsePayload .ok .none (u32 k.number)) none [.ticket, .card, .journal, .staff, .drawer, .lamps] fun t =>
            t.staff = { s.staff with grant := none }
              ∧ TicketClosed { k with forced := true } [(number, .grantUsed .forceClose g.supervisor),
                (number, .drawerAuthDropped .forceClose .cash k.number)] s t
              ∧ t.drawer = { s.drawer with
                auth := none
                attempts := 0
                pulseTimer := none
                confirmTimer := none
                state := if s.drawer.levelClosed then .closed else .opened }
              ∧ t.lamps.reasons = s.lamps.reasons.filter fun r => r != .drawerJammed)
        ∧ ∃ t, exec (.forceClose tag (some ())) s = .next t ∧ t.ticket.current = none
          ∧ ∀ j ∈ t.print.jobs, j.ticket ≠ some k.number

/-- R101: every step keeps the ticket total equal to the sum of the amounts of the lines, within its limit, over at most 99
lines. -/
def Obligations.TotalInvIsKept : Prop := ∀ s t, TotalInv s → step s = .next t → TotalInv t

/-! ## The Drawer Unit and the Lamp Driver -/

/-- R145, R149, R154, R156: NO_SALE is checked in its order and its authorization taken as R145 states; RETRY restarts a
jammed drawer with attempts 1; READ DRAWER answers the fields of DRAWER_STATE. -/
def Obligations.DrawerRequestsAreTaken : Prop :=
  ∀ (s : State) (tag : Nat), Admits s .drawer tag →
    let who := asker s .drawer 1 tag none
    let sale := Completes (.noSale tag (some ())) s who
    let rejected (reason : Reason) := responsePayload .rejected reason []
    let retry := Completes (.retry tag (some ())) s (asker s .drawer 2 tag none)
    (s.ticket.current ≠ none → sale (rejected .ticketState) none [] fun _ => True)
    ∧ (s.ticket.current = none → s.drawer.auth ≠ none → sale (rejected .drawerBusy) none [] fun _ => True)
    ∧ (s.ticket.current = none → s.drawer.auth = none → s.staff.grant = none →
      sale (responsePayload .noGrant .none []) none [.lamps] (Raised .supervisorNeeded s))
    ∧ (∀ g, s.ticket.current = none → s.drawer.auth = none → s.staff.grant = some g →
      let used : Nat × EntryBody := (operatorNumber s, .grantUsed .noSale g.supervisor)
      let accepted (code : Nat) (entries : List (Nat × EntryBody)) (drawer : Drawer) :=
        sale (responsePayload .ok .none (u8 code)) none [.staff, .journal, .drawer] fun t =>
          t.staff = { s.staff with grant := none } ∧ Wrote (used :: entries) s t ∧ t.drawer = drawer
      (s.drawer.state = .closed → accepted 1 [] { s.drawer with
        auth := some ⟨.noSale, g.supervisor⟩
        attempts := 1
        state := .unlatching
        pulseTimer := some s.store.settings.pulseWidth })
      ∧ (s.drawer.state = .opened →
        accepted 3 [(operatorNumber s, .drawerOpened .noSale g.supervisor false true 0)]
          { s.drawer with auth := none, attempts := 0 })
      ∧ (s.drawer.state = .disabled →
        accepted 5 [(operatorNumber s, .drawerSkipped .noSale g.supervisor)]
          { s.drawer with auth := none, attempts := 0 }))
    ∧ (s.drawer.state ≠ .jammed → retry (rejected .drawerState) none [] fun _ => True)
    ∧ (s.drawer.state = .jammed →
      retry (responsePayload .ok .none (u8 1)) none [.drawer, .lamps, .ticket, .card, .journal] fun t =>
        t.drawer = { s.drawer with
          attempts := 1
          state := .unlatching
          pulseTimer := some s.store.settings.pulseWidth }
        ∧ t.lamps.reasons = s.lamps.reasons.filter (fun r => r != .drawerJammed) ∧ DrawerReported [] s t)
    ∧ ∀ a b,
      (∀ lamp, (if lamp = .lampA then a else b)
        = if sourceActive s (lampSource s lamp) then (if lampSource s lamp = .callFlash then 2 else 1) else 0) →
      Completes (.readDrawer tag (some ())) s (asker s .drawer 3 tag none)
        (responsePayload .ok .none
          (u8 (drawerStateCode s.drawer.state) ++ flag s.drawer.forced
            ++ (match s.drawer.auth with
              | none => u8 0
              | some x => u8 1 ++ u8 (authCauseCode x.cause) ++ u32 x.number)
            ++ u8 s.drawer.attempts ++ flag s.drawer.alarm ++ u8 s.lamps.reasons.length
            ++ (s.lamps.reasons.map fun r => u8 (callReasonCode r)).flatten ++ u8 a ++ u8 b)) none [] fun _ => True

/-- R144, R147, R149 to R151: every change of SENSE restarts the debounce timer; at its expiry the debounced level takes the
raw one, and a change is a debounced open or close: the opening of a held authorization, manual in JAMMED, forced in CLOSED,
none in OPEN and DISABLED; the close of an OPEN drawer. R146, R148, R151, R158: the pulse timer ends the pulse and starts
the confirm window; the window's end gives the next pulse while attempts is at or below retries, else JAMMED with its
reason; the left-open timer sets the alarm once; half a flash cycle changes a lamp whose source is CALL_FLASH during a call.
That the expiry of a timer that does not run, SENSE at the level it has and the toggle of a lamp that does not flash do
nothing is the model's choice (notes/assumptions/18.md). -/
def Obligations.DrawerEventsAct : Prop :=
  ((∀ (s : State) (closed : Bool), s.power = .running →
    (s.pins.senseClosed = closed → Happens (.senseChange closed) s [] fun _ => True)
    ∧ (s.pins.senseClosed ≠ closed → Happens (.senseChange closed) s [.pins, .drawer] fun t =>
      t.pins = { s.pins with senseClosed := closed }
        ∧ t.drawer = { s.drawer with debounceTimer := some s.store.settings.debounce }))
  ∧ ∀ s : State, s.power = .running → s.drawer.debounceTimer ≠ none →
    let raw := s.pins.senseClosed
    let base := { s.drawer with debounceTimer := none, levelClosed := raw }
    let judged (drawer : Drawer) (entries : List (Nat × EntryBody)) (post : State → Prop) :=
      Happens .debounceTimerExpiry s [.drawer, .lamps, .ticket, .card, .journal] fun t =>
        t.drawer = drawer ∧ DrawerReported entries s t ∧ post t
    let stand := { base with
      pulseTimer := none, confirmTimer := none, state := .opened, leftOpenTimer := some s.store.settings.leftOpenLimit }
    let same (t : State) := t.lamps = s.lamps
    let opens := raw = false ∧ s.drawer.levelClosed = true
    let closes := raw = true ∧ s.drawer.levelClosed = false
    (¬ opens → ¬ closes → Happens .debounceTimerExpiry s [.drawer] fun t => t.drawer = base)
    ∧ (opens → s.drawer.state = .opened ∨ s.drawer.state = .disabled →
      Happens .debounceTimerExpiry s [.drawer] fun t => t.drawer = base)
    ∧ (∀ x, opens → s.drawer.auth = some x → s.drawer.state = .unlatching ∨ s.drawer.state = .confirming →
      judged { stand with forced := false, auth := none, attempts := 0 }
        [(operatorNumber s, .drawerOpened x.cause x.number false false s.drawer.attempts)] same)
    ∧ (∀ x, opens → s.drawer.auth = some x → s.drawer.state = .jammed →
      judged { stand with forced := false, auth := none, attempts := 0 }
        [(operatorNumber s, .drawerOpened x.cause x.number true false s.drawer.attempts)]
        fun t => t.lamps.reasons = s.lamps.reasons.filter fun r => r != .drawerJammed)
    ∧ (opens → s.drawer.state = .closed →
      judged { stand with forced := true } [(operatorNumber s, .drawerForced)] (Raised .drawerForced s))
    ∧ (closes → s.drawer.state ≠ .opened → Happens .debounceTimerExpiry s [.drawer] fun t => t.drawer = base)
    ∧ (closes → s.drawer.state = .opened →
      judged { base with state := .closed, leftOpenTimer := none, alarm := false, forced := false } []
        fun t => t.lamps.reasons = s.lamps.reasons.filter fun r => r != .drawerLeftOpen))
  ∧ (∀ s : State, s.power = .running →
    let unlatching := s.drawer.state = .unlatching ∧ s.drawer.pulseTimer ≠ none
    let confirming := s.drawer.state = .confirming ∧ s.drawer.confirmTimer ≠ none
    let standing := s.drawer.state = .opened ∧ s.drawer.leftOpenTimer ≠ none
    (unlatching → Happens .pulseTimerExpiry s [.drawer, .ticket, .card, .journal] fun t =>
      t.drawer = { s.drawer with
        state := .confirming, pulseTimer := none, confirmTimer := some s.store.settings.confirmWindow }
      ∧ DrawerReported [] s t)
    ∧ (¬ unlatching → Happens .pulseTimerExpiry s [] fun _ => True)
    ∧ (confirming → s.drawer.attempts ≤ s.store.settings.retries →
      Happens .confirmTimerExpiry s [.drawer, .ticket, .card, .journal] fun t =>
        t.drawer = { s.drawer with
          state := .unlatching
          attempts := s.drawer.attempts + 1
          confirmTimer := none
          pulseTimer := some s.store.settings.pulseWidth }
        ∧ DrawerReported [] s t)
    ∧ (confirming → s.store.settings.retries < s.drawer.attempts →
      Happens .confirmTimerExpiry s [.drawer, .lamps, .ticket, .card, .journal] fun t =>
        t.drawer = { s.drawer with state := .jammed, confirmTimer := none } ∧ Raised .drawerJammed s t
          ∧ DrawerReported [] s t)
    ∧ (¬ confirming → Happens .confirmTimerExpiry s [] fun _ => True)
    ∧ (standing → Happens .leftOpenTimerExpiry s [.drawer, .lamps, .journal] fun t =>
      t.drawer = { s.drawer with leftOpenTimer := none, alarm := true } ∧ Raised .drawerLeftOpen s t
        ∧ Wrote [(operatorNumber s, .drawerLeftOpen)] s t)
    ∧ (¬ standing → Happens .leftOpenTimerExpiry s [] fun _ => True)
    ∧ ∀ lamp,
      (lampSource s lamp = .callFlash → s.lamps.reasons ≠ [] → Happens (.lampFlashToggle lamp) s [.lamps] fun t =>
        t.lamps = if lamp = .lampA then { s.lamps with phaseA := !s.lamps.phaseA }
          else { s.lamps with phaseB := !s.lamps.phaseB })
      ∧ (lampSource s lamp ≠ .callFlash ∨ s.lamps.reasons = [] → Happens (.lampFlashToggle lamp) s [] fun _ => True))

/-! ## Fragments -/

/-- R165, R176, R177: FRAGMENT WRITE replaces a fragment within its 32 blocks and the store's 128, else FULL; FRAGMENT CLEAR
empties one; both after the LOCKED and BUSY checks. FRAGMENT READ answers the count, the blocks and as many whole segments
from its index on as fit, whatever the lock and any save. The number of free blocks in the response of FRAGMENT CLEAR is one
byte, which the manual leaves open (notes/assumptions/33.md). -/
def Obligations.FragmentsAreWrittenClearedAndRead : Prop :=
  ∀ (s : State) (tag : Nat) (f : FragmentFields) (before after : List (List Segment)) (old : List Segment),
    Admits s .mgmt tag → requestInRange (.fragmentWrite f) = true →
    s.store.settings.fragments = before ++ old :: after → before.length + 1 = f.number →
    let write := Completes (.fragmentWrite tag (some f)) s (asker s .mgmt 18 tag none)
    let clear := Completes (.fragmentClear tag (some f.number)) s (asker s .mgmt 19 tag none)
    let rest := ((before ++ after).map blocksOf).sum
    let both (result : Result) := write (responsePayload result .none []) none [] (fun _ => True)
      ∧ clear (responsePayload result .none []) none [] fun _ => True
    let holds (segments : List Segment) (t : State) := t.store = { s.store with
      settings := { s.store.settings with fragments := before ++ segments :: after } }
    let free := s.store.settings.settingsLock = false ∧ s.store.savingSettings = none
    (s.store.settings.settingsLock = true → both .locked)
    ∧ (s.store.settings.settingsLock = false → s.store.savingSettings ≠ none → both .busy)
    ∧ (free → 32 < blocksOf f.segments ∨ 128 < blocksOf f.segments + rest →
      write (responsePayload .full .none []) none [] fun _ => True)
    ∧ (free → blocksOf f.segments ≤ 32 → blocksOf f.segments + rest ≤ 128 →
      write (responsePayload .ok .none (u8 (blocksOf f.segments) ++ u8 (128 - (blocksOf f.segments + rest)))) none
        [.store] (holds f.segments))
    ∧ (free → clear (responsePayload .ok .none (u8 (128 - rest))) none [.store] (holds []))
    ∧ ∀ first shown hidden, old.drop first = shown ++ hidden → (shown.map lengthOf).sum ≤ 1019 →
      (∀ g ∈ hidden.head?, 1019 < (shown.map lengthOf).sum + lengthOf g) →
      Completes (.fragmentRead tag (some ⟨f.number, first⟩)) s (asker s .mgmt 20 tag none)
        (responsePayload .ok .none
          (u8 old.length ++ u8 (blocksOf old) ++ u8 shown.length ++ (shown.map writeSegment).flatten)) none []
        fun _ => True

/-! ## The Drawer Unit and the Lamp Driver -/

/-- R145, R153: every step keeps an authorization held exactly in UNLATCHING, CONFIRMING and JAMMED, attempts 0 without one,
and the drawer DISABLED exactly while its port is disabled. R21, R22: every step keeps SCALE_FAULT raised in FAULT, and
outside FAULT raised in SETTLING alone. -/
def Obligations.DrawerInvAndScaleFaultInvAreKept : Prop :=
  (∀ s t, DrawerInv s → step s = .next t → DrawerInv t)
  ∧ (∀ s t, ScaleFaultInv s → step s = .next t → ScaleFaultInv t)

/-! ## The Print Unit and the Printer Port -/

/-- R160, R161, R162: JOB OPEN is refused with eight jobs in the queue, and with a binding that does not name the current
ticket; otherwise the job takes the first free number. A non-stream job starts in LOADING; a stream job joins the print
order list, and starts at once when it is first and the port is free: STALLED with the port's reason, else WAITING_DATA. The
opening of a bound job is reported to the ticket. -/
def Obligations.JobOpenMakesAJob : Prop :=
  ∀ (s : State) (tag : Nat) (f : JobFields), Admits s .print tag →
    (if f.bound then 1 ≤ f.ticket ∧ f.ticket ≤ 999999 else f.ticket = 0) →
    let c : Instr := .jobOpen tag (some f)
    let who := asker s .print 1 tag none
    let refused (result : Result) (reason : Reason) :=
      Completes c s who (responsePayload result reason []) none [] fun _ => True
    let named := f.bound = true → ∃ k, s.ticket.current = some k ∧ k.number = f.ticket
    (8 ≤ s.print.jobs.length → refused .full .none)
    ∧ (s.print.jobs.length < 8 → ¬ named → refused .rejected .ticketState)
    ∧ ∀ i, s.print.jobs.length < 8 → named → PrintQuiet s →
      (∀ x ∈ s.print.jobs, x.number ≠ jobNumberLater i s.print.next) →
      (∀ m, m < i → ∃ x ∈ s.print.jobs, x.number = jobNumberLater m s.print.next) →
      let n := jobNumberLater i s.print.next
      let binding := if f.bound then some f.ticket else none
      let opened (state : JobState) (stall : Option Stall) :=
        Completes c s who (responsePayload .ok .none (u8 n)) none [.print, .ticket, .card, .journal] fun t =>
          t.print = ⟨s.print.jobs
              ++ [⟨n, binding, f.stream, false, none, state, [], .own 0, [], false, false, false, stall, false⟩],
            jobNumberAfter n, if f.stream then s.print.order ++ [n] else s.print.order⟩
          ∧ JobReported binding false s t
      let free := s.port.segment = none ∧ s.port.current = none ∧ s.port.stopping = false
      (f.stream = false → opened .loading none)
      ∧ (∀ x ∈ s.print.jobs, f.stream = true → s.print.order.head? = some x.number → opened .queued none)
      ∧ (f.stream = true → s.print.order = [] → ¬ free → opened .queued none)
      ∧ (f.stream = true → s.print.order = [] → free → s.port.stall = none → opened .waitingData none)
      ∧ ∀ r, f.stream = true → s.print.order = [] → free → s.port.stall = some r → opened .stalled (some r)

/-- R163, R165: the checks of SEGMENT in their order, the index and the free blocks it answers, and the segment appended. A
stream job in WAITING_DATA goes on: STALLED while it holds a stall reason. Else, at an open port, a TEXT, RASTER, FEED or CUT
is begun by the capability as it stands and its first printer byte is offered with the busy timer running, behind a pending
discard (R167, R180, R182). R171 to R173: an INSERT of a bound job hands its lines in the same way, with PRINTED_TOTAL set by
TOTAL; one that renders nothing is passed, an absent or not WEIGHED line with MISSING_LINE set; a final field of a ticket
not SETTLED holds the job. R169, R170: a CALL pushes its return position and goes on at the fragment's first segment; an
empty fragment is passed with MISSING_FRAGMENT set. BUSY is asserted as a byte is offered (notes/assumptions/19.md), and
each line of an insert has its own NORMAL style command (notes/assumptions/26.md). -/
def Obligations.SegmentIsAppended : Prop :=
  ∀ (s : State) (tag : Nat) (f : SegmentFields), Admits s .print tag → segmentInRange f.segment = true →
    let c : Instr := .segment tag (some f)
    let who := asker s .print 2 tag none
    let refused (result : Result) (reason : Reason) :=
      Completes c s who (responsePayload result reason []) none [] fun _ => True
    ((∀ x ∈ s.print.jobs, x.number ≠ f.job) → refused .notFound .none)
    ∧ ∀ before j after, JobIs s before j after → j.number = f.job →
      let takes := j.state = .loading ∨ j.stream = true ∧ j.submitted = false
      let insert := ∃ field n, f.segment = .insert field n
      let blocks := (s.print.jobs.map fun x => blocksOf x.segments).sum
      let need := (lengthOf f.segment + 59) / 60
      let fits := j.segments.length < 255 ∧ need ≤ 256 - blocks
      let appended (parts : List Part) (j' : Job) (post : State → Prop) :=
        Completes c s who (responsePayload .ok .none (u8 j.segments.length ++ u16 (256 - (blocks + need)))) none
          (.print :: parts) fun t => post t ∧ t.print = { s.print with
            jobs := before ++ { j' with segments := j.segments ++ [f.segment] } :: after }
      (¬ takes → refused .rejected .jobState)
      ∧ (takes → insert → j.ticket = none → refused .badField .none)
      ∧ (takes → (insert → j.ticket ≠ none) → ¬ fits → refused .full .none)
      ∧ (takes → (insert → j.ticket ≠ none) → fits →
        (j.state ≠ .waitingData → PrintQuiet s → appended [] j fun _ => True)
        ∧ (∀ r, j.state = .waitingData → PrintQuiet s → j.stall = some r →
          appended [] { j with state := .stalled, restart := false } fun _ => True)
        ∧ (Printing s before j after .waitingData → j.stall = none → j.position = .own j.segments.length → PortOpen s →
          s.port.segment = none → s.port.current = none → s.pins.printerBusy = false →
          let begins (j' : Job) (content : Handed) (first : Byte) (ahead : List Byte) (coded : List PortByte) :=
            appended [.port, .pins] { j' with state := .printing, restart := false } fun t =>
              t.pins = { s.pins with printerBusy := true }
              ∧ t.port = beginsAt s.store.settings.busyLimit content first ahead coded s.port
          Reaches s s.port.capable j f.segment begins
            (fun j' => appended [] { j' with state := .held, restart := false } fun _ => True)
            fun j' => appended [] { j' with position := .own (j.segments.length + 1), restart := false } fun _ => True))

/-- R162, R166, R175: the checks of SUBMIT. An accepted one waits for the end of its job: LOADING joins the print order
list, a stream job keeps its state and place, one in WAITING_DATA ends DONE at that moment. JOB_START starts the first job
of the list at a free port, and does nothing otherwise (notes/assumptions/16.md, notes/assumptions/18.md). A job that starts
with a segment to print enters PRINTING and, at an open port, that segment is begun and its first byte offered, behind a
pending discard (R167, R180, R182; notes/assumptions/19.md). R169 to R173: a job that starts on an INSERT hands its lines
(notes/assumptions/26.md), is held at a final field, or passes it; one that starts on a CALL goes on at the fragment's first
segment, or passes an empty fragment. Past its last segment it ends DONE, or waits for data. -/
def Obligations.SubmittedJobsStartAndEnd : Prop :=
  (∀ (s : State) (tag n : Nat), Admits s .print tag →
    let c : Instr := .submit tag (some n)
    let who := asker s .print 3 tag none
    let refused (result : Result) (reason : Reason) :=
      Completes c s who (responsePayload result reason []) none [] fun _ => True
    ((∀ x ∈ s.print.jobs, x.number ≠ n) → refused .notFound .none)
    ∧ ∀ before j after, JobIs s before j after → j.number = n →
      let taken (j' : Job) (order : List Nat) := ∃ t, exec c s = .next t ∧ Waits s t who ∧ LinkKept s t
        ∧ Keeps [.print] s t ∧ t.print = { s.print with
          jobs := before ++ { j' with submitted := true, reply := some who } :: after, order := order }
      let done (j' : Job) := Completes c s who
        (responsePayload .ok .none (u8 0 ++ flag j'.missingFragment ++ flag j'.missingLine ++ flag j'.printedTotal)) none
        [.print, .ticket, .card, .journal] fun t =>
          t.print = { s.print with jobs := before ++ after, order := [] } ∧ JobReported j.ticket j'.printedTotal s t
      let free := s.port.segment = none ∧ s.port.current = none ∧ s.port.stopping = false
      (j.submitted = true → refused .rejected .jobState)
      ∧ (j.submitted = false → PrintQuiet s →
        (∀ x ∈ before ++ after, j.state = .loading → s.print.order.head? = some x.number →
          taken { j with state := .queued } (s.print.order ++ [n]))
        ∧ (∀ r, j.state = .loading → s.print.order = [] → free → s.port.stall = some r →
          taken { j with state := .stalled, stall := some r } [n])
        ∧ (j.state = .loading → s.print.order = [] → free → s.port.stall = none → j.segments = [] →
          j.position = .own 0 → done j)
        ∧ (∀ g, j.state = .loading → s.print.order = [] → PortOpen s →
          s.port.segment = none → s.port.current = none → s.pins.printerBusy = false → segmentAt j = some g →
          let begins (j' : Job) (content : Handed) (first : Byte) (ahead : List Byte) (coded : List PortByte) :=
            ∃ t, exec c s = .next t ∧ Waits s t who ∧ LinkKept s t ∧ Keeps [.print, .port, .pins] s t
              ∧ t.print = { s.print with
                jobs := before ++ { j' with
                  submitted := true, reply := some who, state := .printing, stall := none, restart := false } :: after
                order := [n] }
              ∧ t.pins = { s.pins with printerBusy := true }
              ∧ t.port = beginsAt s.store.settings.busyLimit content first ahead coded s.port
          Reaches s s.port.capable j g begins (fun j' => taken { j' with state := .held, stall := none } [n]) fun j' =>
            let j2 := { j' with position := nextPosition j.position, restart := false }
            (∀ i, j.position = .own i → i + 1 = j.segments.length → done j2)
            ∧ ∀ g' content first ahead coded, segmentAt j2 = some g' →
              BeginsAs s.store.settings.printWidth s.port.capable g' content first ahead coded →
              begins j2 content first ahead coded)
        ∧ (j.state ≠ .loading → j.state ≠ .waitingData → taken j s.print.order)
        ∧ (j.state = .waitingData → s.print.order = [n] → done j)))
  ∧ ∀ s : State, s.power = .running →
    let free := s.port.segment = none ∧ s.port.current = none ∧ s.port.stopping = false
    (s.print.order = [] ∨ ¬ free → Happens .jobStart s [] fun _ => True)
    ∧ ∀ before j after state, Printing s before j after state →
      let started (j' : Job) := Happens .jobStart s [.print] fun t =>
        t.print = { s.print with jobs := before ++ j' :: after }
      let done (j' : Job) := ∀ who, j.submitted = true → j.reply = some who → s.print.order = [j.number] →
        AnswersLater .jobStart s who
          (responsePayload .ok .none (u8 0 ++ flag j'.missingFragment ++ flag j'.missingLine ++ flag j'.printedTotal))
          [.print, .ticket, .card, .journal] fun t =>
            t.print = { s.print with jobs := before ++ after, order := [] } ∧ JobReported j.ticket j'.printedTotal s t
      (state ≠ .queued → Happens .jobStart s [] fun _ => True)
      ∧ (state = .queued → free → s.port.mode ≠ .block → s.port.due = none →
        (∀ r, s.port.stall = some r → started { j with state := .stalled, stall := some r })
        ∧ (s.port.stall = none → j.segments = [] → j.position = .own 0 → j.stack = [] → j.submitted = false →
          started { j with state := .waitingData, stall := none })
        ∧ (∀ g, PortOpen s → s.pins.printerBusy = false → segmentAt j = some g →
          let begins (j' : Job) (content : Handed) (first : Byte) (ahead : List Byte) (coded : List PortByte) :=
            Happens .jobStart s [.print, .port, .pins] fun t => t.print = { s.print with
                jobs := before ++ { j' with state := .printing, stall := none, restart := false } :: after }
              ∧ t.pins = { s.pins with printerBusy := true }
              ∧ t.port = beginsAt s.store.settings.busyLimit content first ahead coded s.port
          Reaches s s.port.capable j g begins (fun j' => started { j' with state := .held, stall := none }) fun j' =>
            let j2 := { j' with position := nextPosition j.position, restart := false }
            (∀ i, j.position = .own i → i + 1 = j.segments.length →
              (j.submitted = false → started { j2 with state := .waitingData, stall := none }) ∧ done j2)
            ∧ ∀ g' content first ahead coded, segmentAt j2 = some g' →
              BeginsAs s.store.settings.printWidth s.port.capable g' content first ahead coded →
              begins j2 content first ahead coded)
        ∧ (s.port.stall = none → j.segments = [] → j.position = .own 0 → done j))

/-- R168, R175, R190: CANCEL ends its job CANCELLED, the SUBMIT response behind its own, and the job's end is reported to
the ticket. A job in PRINTING also stops the port: what has not been offered or loaded is dropped and a stop is in progress.
In COMPAT it waits for the byte offered, or for a pending discard that is ready; a byte of the segment that is ready though
not offered is dropped (notes/assumptions/20.md; BUSY holds it back, notes/assumptions/19.md), and the discard of the stop is
ready in its place, behind a status read that is due (notes/assumptions/25.md). During a status read the stop goes on behind
it. In BLOCK the FIFO drains first. A job in STALLED drops its segment, with line discard pending if a byte of it had been
offered. No other job is in the print order list. -/
def Obligations.CancelEndsTheJob : Prop :=
  ∀ (s : State) (tag n : Nat), Admits s .print tag →
    let c : Instr := .cancel tag (some n)
    let who := asker s .print 4 tag none
    let ok := responsePayload .ok .none []
    ((∀ x ∈ s.print.jobs, x.number ≠ n) →
      Completes c s who (responsePayload .notFound .none []) none [] fun _ => True)
    ∧ ∀ before j after, JobIs s before j after → j.number = n → (∀ m ∈ s.print.order, m = n) →
      let ends (port : Port) :=
        let post (t : State) := t.port = port ∧ t.print = { s.print with jobs := before ++ after, order := [] }
          ∧ JobReported j.ticket false s t
        (j.reply = none → Completes c s who ok none [.print, .ticket, .card, .journal, .port] post)
        ∧ ∀ r, j.reply = some r → r.channel = .print → ∃ t, exec c s = .next t
          ∧ (chanOf t.link .print).unanswered = (chanOf s.link .print).unanswered ++ [who]
          ∧ outbox t.link .print = outbox s.link .print ++ [⟨who.id, 4, tag, ok, none⟩,
            ⟨r.id, r.kind, r.tag, responsePayload .ok .none
              (u8 2 ++ flag j.missingFragment ++ flag j.missingLine ++ flag j.printedTotal), none⟩]
          ∧ (∀ ch, ch ≠ .print → MailSame ch s t) ∧ LinkKept s t
          ∧ Keeps [.print, .ticket, .card, .journal, .port] s t ∧ post t
      (j.state ≠ .printing → j.state ≠ .stalled → PrintQuiet s → ends s.port)
      ∧ (∀ b, j.state = .printing → s.port.mode = .compat → s.port.current = some b → b.offered = true →
        ends { s.port with segment := none, stopping := true })
      ∧ (j.state = .printing → s.port.mode = .compat → s.port.stall = none → s.port.reading = none →
        s.store.settings.printerEnable = true → s.pins.printerBusy = true →
        ∀ b source, s.port.current = some ⟨b, source, false⟩ →
        let stopped := { s.port with segment := none, stopping := true }
        (source = .discard → ends stopped)
        ∧ (source = .segment → s.port.due = none → ends { stopped with
          current := some ⟨⟨0x18#8, false⟩, .stop, false⟩, busyTimer := some s.store.settings.busyLimit })
        ∧ ∀ cause, source = .segment → s.port.due = some cause →
          ends (readBegun cause s.store.settings.busyLimit { stopped with current := none }))
      ∧ (j.state = .printing → s.port.mode = .status → s.port.reading ≠ none → s.port.current = none →
        ends { s.port with segment := none, stopping := true })
      ∧ (∀ b, j.state = .printing → s.port.mode = .block → s.port.current = some b →
        b.offered = true ∨ s.pins.printerBusy = true →
        ends { s.port with segment := s.port.segment.map fun x => { x with coded := [] }, stopping := true })
      ∧ (j.state = .stalled → PrintQuiet s → s.port.mode ≠ .block → s.port.stall ≠ none →
        (s.port.segment = none → ends s.port)
        ∧ ∀ x, s.port.segment = some x →
          ends { s.port with segment := none, discardPending := s.port.discardPending || x.offered })

/-- R167, R180, R182: an ACK with no byte offered is ignored. In COMPAT the byte offered is accepted at the ACK and the next
one is ready, with the busy timer started; at the last byte the segment is accepted and the job's position moves, to
the next segment, to WAITING_DATA or, submitted, to DONE. R169, R170: at a CALL it moves into the fragment as it stands, its
return position pushed; an empty fragment is skipped with MISSING_FRAGMENT set; a fifth call ends the job FAILED with
NEST_LIMIT; the fragment's end returns. R190: during a stop the accepted byte is followed by the line discard of the stop,
whose acceptance ends the stop; a discard that was pending ends at its own acceptance. When BUSY is deasserted the byte that
is ready is offered (the line and the byte that is ready: notes/assumptions/19.md, notes/assumptions/20.md). Every move of
the position makes JOB_STATE owed (R167, R178). That the discard of a stop is also the one an earlier interruption left
pending is the model's reading (notes/assumptions/25.md). R181, R182: with
the raster-start command accepted the port enters BLOCK and loads the FIFO. In BLOCK an accepted byte leaves the FIFO, where
it stood until then (notes/assumptions/21.md), the FIFO is loaded up to 64 bytes, and its next byte is ready; with the last
byte accepted the port leaves BLOCK for COMPAT and the position moves, or the stop sends its discard. BLOCK_EXIT
does the same when it is due, and nothing otherwise (notes/assumptions/16.md). -/
def Obligations.PrinterBytesAreHandshaken : Prop :=
  (∀ s : State, s.power = .running →
    ((∀ b, s.port.current = some b → b.offered = false) → Happens .printerAck s [] fun _ => True)
    ∧ (∀ b x next rest, PortOpen s → s.pins.printerBusy = true → s.port.discardPending = false →
      s.port.current = some ⟨b, .segment, true⟩ → s.port.segment = some x → x.begun = true → x.ahead = next :: rest →
      Happens .printerAck s [.port] fun t => t.port = { s.port with
        segment := some { x with ahead := rest, accepted := x.accepted + 1 }
        current := some ⟨⟨next, false⟩, .segment, false⟩
        busyTimer := some s.store.settings.busyLimit })
    ∧ (∀ b x before j after i, PortOpen s → s.port.current = some ⟨b, .segment, true⟩ → s.port.segment = some x →
      x.ahead = [] → x.coded = [] → Printing s before j after .printing → j.position = .own i → j.stack = [] →
      i + 1 = j.segments.length →
      let port := { s.port with segment := none, current := none, busyTimer := none }
      (j.submitted = false → Happens .printerAck s [.port, .print] fun t => t.port = port ∧ Notifies .jobState s t
        ∧ t.print = { s.print with
          jobs := before ++ { j with state := .waitingData, position := .own (i + 1), restart := false } :: after })
      ∧ ∀ who, j.submitted = true → j.reply = some who → s.print.order = [j.number] →
        AnswersLater .printerAck s who
          (responsePayload .ok .none (u8 0 ++ flag j.missingFragment ++ flag j.missingLine ++ flag j.printedTotal))
          [.port, .print, .ticket, .card, .journal] fun t => t.port = port
            ∧ t.print = { s.print with jobs := before ++ after, order := [] }
            ∧ JobReported j.ticket j.printedTotal s t)
    ∧ (∀ b x before j after, PortOpen s → s.pins.printerBusy = true → s.port.discardPending = false →
      s.port.current = some ⟨b, .segment, true⟩ → s.port.segment = some x → x.ahead = [] → x.coded = [] →
      Printing s before j after .printing →
      let port := { s.port with segment := none, current := none, busyTimer := none }
      let next := nextPosition j.position
      let becomes (j' : Job) := Happens .printerAck s [.port, .print] fun t => t.port = port ∧ Notifies .jobState s t
        ∧ t.print = { s.print with jobs := before ++ { j' with restart := false } :: after }
      let begins (j' : Job) (content : Handed) (first : Byte) (ahead : List Byte) (coded : List PortByte) :=
        Happens .printerAck s [.port, .print] fun t => Notifies .jobState s t
          ∧ t.print = { s.print with jobs := before ++ { j' with restart := false } :: after }
          ∧ t.port = { s.port with
            segment := some ⟨content, true, ahead, coded, false, 0⟩
            current := some ⟨⟨first, false⟩, .segment, false⟩
            busyTimer := some s.store.settings.busyLimit }
      let reaches (j' : Job) := ∀ g, segmentAt j' = some g →
        Reaches s s.port.capable j' g begins (fun j2 => becomes { j2 with state := .held }) fun j2 =>
          (∀ i, j'.position = .own i → i + 1 = j.segments.length → j.submitted = false →
            becomes { j2 with state := .waitingData, position := .own (i + 1) })
          ∧ ∀ g' content first ahead coded, segmentAt { j2 with position := nextPosition j'.position } = some g' →
            BeginsAs s.store.settings.printWidth s.port.capable g' content first ahead coded →
            begins { j2 with position := nextPosition j'.position } content first ahead coded
      reaches { j with position := next }
      ∧ (∀ n older content newer who, segmentAt { j with position := next } = some (.call n) →
        s.store.settings.fragments = older ++ content :: newer → older.length + 1 = n → content ≠ [] →
        4 ≤ j.stack.length → j.reply = some who → s.print.order = [j.number] →
        AnswersLater .printerAck s who (responsePayload .fault .nestLimit
            (u8 1 ++ flag j.missingFragment ++ flag j.missingLine ++ flag j.printedTotal))
          [.port, .print, .ticket, .card, .journal] fun t => t.port = port
            ∧ t.print = { s.print with jobs := before ++ after, order := [] } ∧ JobReported j.ticket false s t)
      ∧ ∀ n i content back older, j.position = .fragment n i content → i + 1 = content.length → j.stack = back :: older →
        (∀ m, back = .own m → m = j.segments.length → j.submitted = false →
          becomes { j with state := .waitingData, position := back, stack := older })
        ∧ reaches { j with position := back, stack := older })
    ∧ (∀ b source, s.port.mode = .compat → s.port.due = none → s.print.order = [] → s.port.segment = none →
      s.port.current = some ⟨b, source, true⟩ →
      (source = .stop → Happens .printerAck s [.port] fun t => t.port = { s.port with
        current := none, busyTimer := none, discardPending := false, stopping := false })
      ∧ (source = .discard → s.port.stopping = false → Happens .printerAck s [.port] fun t => t.port = { s.port with
        current := none, busyTimer := none, discardPending := false })
      ∧ (source = .discard ∨ source = .segment → s.port.stopping = true → s.store.settings.printerEnable = true →
        s.port.stall = none → s.port.reading = none → s.pins.printerBusy = true →
        Happens .printerAck s [.port] fun t => t.port = { s.port with
          current := some ⟨⟨0x18#8, false⟩, .stop, false⟩
          busyTimer := some s.store.settings.busyLimit
          discardPending := s.port.discardPending && source != .discard }))
    ∧ (∀ b x, PortOpen s → s.pins.printerBusy = true → s.port.discardPending = false → s.port.fifo = [] →
      s.port.current = some ⟨b, .segment, true⟩ → s.port.segment = some x → x.begun = true → x.ahead = [] →
      ∀ head rest, x.coded = head :: rest →
      Happens .printerAck s [.port] fun t => t.port = { s.port with
        mode := .block
        fifo := (head :: rest).take 64
        segment := some { x with coded := (head :: rest).drop 64, accepted := x.accepted + 1 }
        current := some ⟨head, .fifo, false⟩
        busyTimer := some s.store.settings.busyLimit })
    ∧ (PrintQuiet s → (∀ b, s.port.current = some b → b.offered = true) →
      Happens .busyDeasserted s [.pins] fun t => t.pins = { s.pins with printerBusy := false })
    ∧ ∀ b, PrintQuiet s → s.pins.printerBusy = true → s.port.current = some b → b.offered = false →
      Happens .busyDeasserted s [.port] fun t => t.port = { s.port with
        current := some { b with offered := true }
        segment := if b.source = .discard ∨ b.source = .stop then s.port.segment
          else s.port.segment.map fun x => { x with offered := true } })
  ∧ (∀ s : State, s.power = .running →
    (∀ b x head next rest, s.port.mode = .block → s.store.settings.printerEnable = true → s.port.stall = none →
      s.port.reading = none → s.pins.printerBusy = true → s.port.current = some ⟨b, .fifo, true⟩ →
      s.port.fifo = head :: next :: rest → s.port.segment = some x →
      let room := 64 - (rest.length + 1)
      Happens .printerAck s [.port] fun t => t.port = { s.port with
        fifo := next :: rest ++ x.coded.take room
        segment := some { x with coded := x.coded.drop room, accepted := x.accepted + 1 }
        current := some ⟨next, .fifo, false⟩
        busyTimer := some s.store.settings.busyLimit })
    ∧ (s.port.mode ≠ .block ∨ s.port.fifo ≠ [] ∨ s.port.current ≠ none ∨ (∃ x, s.port.segment = some x ∧ x.coded ≠ []) →
      Happens .blockExit s [] fun _ => True)
    ∧ (∀ b head x, s.port.mode = .block → s.store.settings.printerEnable = true → s.port.stall = none →
      s.port.reading = none → s.port.due = none → s.pins.printerBusy = true → s.port.stopping = true →
      s.print.order = [] → s.port.current = some ⟨b, .fifo, true⟩ → s.port.fifo = [head] → s.port.segment = some x →
      x.coded = [] →
      Happens .printerAck s [.port] fun t => t.port = { s.port with
        mode := .compat, fifo := [], fifoError := false, segment := none
        current := some ⟨⟨0x18#8, false⟩, .stop, false⟩
        busyTimer := some s.store.settings.busyLimit })
    ∧ ∀ x before j after i, s.port.mode = .block → s.port.stall = none → s.port.reading = none → s.port.due = none →
      s.port.stopping = false → s.port.segment = some x → x.coded = [] → Printing s before j after .printing →
      j.position = .own i → j.stack = [] → i + 1 = j.segments.length → j.submitted = false →
      let exited (t : State) := t.port = { s.port with
          mode := .compat, fifo := [], fifoError := false, segment := none, current := none, busyTimer := t.port.busyTimer }
        ∧ Notifies .jobState s t ∧ t.print = { s.print with
          jobs := before ++ { j with state := .waitingData, position := .own (i + 1), restart := false } :: after }
      (∀ b head, s.port.current = some ⟨b, .fifo, true⟩ → s.port.fifo = [head] →
        Happens .printerAck s [.port, .print] fun t => exited t ∧ t.port.busyTimer = none)
      ∧ (s.port.current = none → s.port.fifo = [] →
        Happens .blockExit s [.port, .print] fun t => exited t ∧ t.port.busyTimer = s.port.busyTimer))

/-- R184, R187, R188: a due status read begins in COMPAT with no byte awaiting acceptance. Its answer ends it: presence,
status, capability and stall reason are judged, the poll timer runs while a reason is held, the lamp reason PAPER_OUT follows
bit 0; without an answer the printer is ABSENT. STATUS_READ_START does nothing otherwise, an answer outside a read is ignored,
and BUSY has the level the answer gives (notes/assumptions/16.md, notes/assumptions/40.md, notes/assumptions/19.md). With no
job in the print order list; a stop in progress goes on with its discard at an answer without a reason, waits at one with a
reason (notes/assumptions/25.md), and ends with line discard pending at the expiry (R190). R174, R187, R188: the answer of a
read and the printing job. A reason judged anew stalls a job in PRINTING and replaces the reason of one in STALLED,
WAITING_DATA or HELD, whose state stays. No reason judged with none held, after an interruption, lets a job in PRINTING print
on in the same way as the end of a stall does one in STALLED. No reason ends the stall of one in WAITING_DATA or HELD, and one
in STALLED prints on: the segment at its position is handed again from its beginning, an INSERT rendered as the ticket then
stands (notes/assumptions/26.md), or, not begun, is still held by the port, an INSERT as it was rendered, and its first byte is
offered, behind the pending discard (R182). An INSERT that now renders nothing is passed and its restart ends with it: the
segment behind it is printed, or, a final field of a ticket not SETTLED, holds the job at once (R171, R173). PRINTER_FAULT with
a job in PRINTING on a CUT ends it FAILED. A byte that is ready counts as awaiting acceptance, so no read begins
(notes/assumptions/20.md), and a pending discard waits for the next segment (notes/assumptions/22.md). -/
def Obligations.StatusReadsJudgeAndStall : Prop :=
  (∀ s : State, s.power = .running →
    let limit := s.store.settings.busyLimit
    (s.store.settings.printerEnable = false ∨ s.port.due = none ∨ s.port.reading ≠ none ∨ s.port.mode ≠ .compat
        ∨ s.port.current ≠ none →
      Happens .statusReadStart s [] fun _ => True)
    ∧ (∀ cause, s.store.settings.printerEnable = true → s.port.due = some cause → s.port.reading = none →
      s.port.mode = .compat → s.port.current = none → s.print.order = [] →
      Happens .statusReadStart s [.port] fun t => t.port = readBegun cause limit s.port)
    ∧ (∀ status busy, s.port.reading = none → Happens (.statusAnswer status busy) s [] fun _ => True)
    ∧ ∀ cause, s.port.reading = some cause → s.port.due = none → s.port.current = none → s.port.segment = none →
      s.print.order = [] →
      (∀ (status : Byte) (busy : Bool),
        let stall := stallOf status busy (cause == .busyTimer || s.port.stall == some .notResponding)
        let judged := judgedPort status stall s.port
        let answered (level : Bool) (port : Port) :=
          Happens (.statusAnswer status busy) s [.port, .pins, .lamps] fun t =>
            t.pins = { s.pins with printerBusy := level } ∧ t.port = port
            ∧ (status.getLsbD 0 = true → Raised .paperOut s t)
            ∧ (status.getLsbD 0 = false → t.lamps.reasons = s.lamps.reasons.filter fun r => r != .paperOut)
        (s.port.stopping = false ∨ stall ≠ none → answered busy judged)
        ∧ (s.port.stopping = true → stall = none → s.store.settings.printerEnable = true →
          answered true { judged with current := some ⟨⟨0x18#8, false⟩, .stop, !busy⟩, busyTimer := some limit }))
      ∧ (s.port.busyTimer ≠ none → Happens .busyTimerExpiry s [.port] fun t => t.port = { s.port with
        mode := .compat, fifo := [], fifoError := false, reading := none, busyTimer := none
        presence := .absent, stall := some .printerAbsent, pollTimer := some 2000
        stopping := false, discardPending := s.port.discardPending || s.port.stopping }))
  ∧ (∀ (s : State) (cause : ReadCause) (status : Byte) (busy : Bool) (before after : List Job) (j : Job) (state : JobState),
    s.power = .running → s.port.reading = some cause → s.port.due = none → s.port.current = none →
    s.port.stopping = false → Printing s before j after state →
    let stall := stallOf status busy (cause == .busyTimer || s.port.stall == some .notResponding)
    let c : Instr := .statusAnswer status busy
    let cut := ∃ kind, segmentAt j = some (.cut kind)
    let becomes (j' : Job) := Happens c s [.port, .pins, .lamps, .print] fun t => t.port.stall = stall
      ∧ t.port.mode = .compat ∧ t.print = { s.print with jobs := before ++ j' :: after }
    let held (g : Segment) (content : Handed) (first : Byte) (ahead : List Byte) (coded : List PortByte) :=
      BeginsAs s.store.settings.printWidth (status.getLsbD 5) g content first ahead coded
        ∨ (∃ field n, g = .insert field n) ∧ content = .bytes (first :: ahead) ∧ coded = []
    let passed (begins : Job → Handed → Byte → List Byte → List PortByte → Prop) (j2 : Job) :=
      (∀ g' content first ahead coded, segmentAt j2 = some g' →
        BeginsAs s.store.settings.printWidth (status.getLsbD 5) g' content first ahead coded →
        begins j2 content first ahead coded)
      ∧ ∀ field n k, segmentAt j2 = some (.insert field n) → isFinal field = true → j2.ticket ≠ none →
        s.ticket.current = some k → k.phase ≠ .settled → becomes { j2 with state := .held }
    (s.port.stall = none → stall = none → state = .printing → busy = false → s.store.settings.printerEnable = true →
      ∀ g, segmentAt j = some g →
      let begins (j' : Job) (content : Handed) (first : Byte) (ahead : List Byte) (coded : List PortByte) :=
        Happens c s [.port, .pins, .lamps, .print] fun t =>
          t.print = { s.print with jobs := before ++ { j' with restart := false } :: after }
          ∧ t.pins = { s.pins with printerBusy := true }
          ∧ t.port = beginsAt s.store.settings.busyLimit content first ahead coded (judgedPort status none s.port)
      (s.port.segment = none →
        Reaches s (status.getLsbD 5) j g begins (fun j' => becomes { j' with state := .held }) fun j' =>
          let j2 := { j' with position := nextPosition j.position, restart := false }
          passed begins j2 ∧ ∀ i, j.position = .own i → i + 1 = j.segments.length → j.submitted = false →
            becomes { j2 with state := .waitingData })
      ∧ ∀ content first ahead coded, s.port.segment = some ⟨content, false, [], [], false, 0⟩ → j.restart = false →
        held g content first ahead coded → begins j content first ahead coded)
    ∧ (s.port.stall ≠ stall →
    (∀ r, stall = some r → state = .printing → ¬ (r = .printerFault ∧ cut) →
      becomes { j with stall := some r, state := .stalled })
    ∧ (∀ r, stall = some r → state = .stalled ∨ state = .waitingData ∨ state = .held → becomes { j with stall := some r })
    ∧ (stall = none → state = .waitingData ∨ state = .held → s.port.segment = none → becomes { j with stall := none })
    ∧ (stall = none → state = .stalled → busy = false → s.store.settings.printerEnable = true →
      ∀ g, segmentAt j = some g →
      let begins (j' : Job) (content : Handed) (first : Byte) (ahead : List Byte) (coded : List PortByte) :=
        Happens c s [.port, .pins, .lamps, .print] fun t => t.print = { s.print with
            jobs := before ++ { j' with state := .printing, stall := none, restart := false } :: after }
          ∧ t.pins = { s.pins with printerBusy := true }
          ∧ t.port = beginsAt s.store.settings.busyLimit content first ahead coded (judgedPort status none s.port)
      (s.port.segment = none →
        Reaches s (status.getLsbD 5) j g begins (fun j' => becomes { j' with state := .held, stall := none }) fun j' =>
          let j2 := { j' with position := nextPosition j.position, stall := none, restart := false }
          passed begins j2 ∧ ∀ i, j.position = .own i → i + 1 = j.segments.length → j.submitted = false →
            becomes { j2 with state := .waitingData })
      ∧ ∀ content first ahead coded, s.port.segment = some ⟨content, false, [], [], false, 0⟩ → j.restart = false →
        held g content first ahead coded → begins j content first ahead coded)
    ∧ ∀ who, stall = some .printerFault → state = .printing → cut → j.reply = some who → s.print.order = [j.number] →
      AnswersLater c s who
        (responsePayload .fault .none (u8 1 ++ flag j.missingFragment ++ flag j.missingLine ++ flag j.printedTotal))
        [.port, .pins, .lamps, .print, .ticket, .card, .journal] fun t =>
          t.port.stall = some .printerFault ∧ t.print = { s.print with jobs := before ++ after, order := [] }
            ∧ JobReported j.ticket false s t))

/-- R184, R185, R186, R190: an expiry of the busy timer while a byte awaits acceptance, and a change of FAULT or PAPER_OUT
to asserted, interrupt the transfer and the status read begins at once. A segment with a byte offered is dropped with line
discard pending and its restart reported, in BLOCK through the ERROR of the FIFO; a segment with none offered stays waiting,
to be begun anew (notes/assumptions/51.md); the expiry ends a stop. A byte that is ready though not offered counts as
awaiting acceptance (notes/assumptions/20.md). -/
def Obligations.TransfersAreInterrupted : Prop :=
  ∀ (s : State) (c : Instr) (cause : ReadCause) (pins : Pins), s.power = .running →
    (c = .busyTimerExpiry ∧ cause = .busyTimer ∧ pins = s.pins ∧ s.port.busyTimer ≠ none
      ∨ c = .printerLineChange .fault true ∧ cause = .other ∧ s.pins.printerFault = false
        ∧ pins = { s.pins with printerFault := true }
      ∨ c = .printerLineChange .paperOut true ∧ cause = .other ∧ s.pins.printerPaperOut = false
        ∧ pins = { s.pins with printerPaperOut := true }) →
    s.store.settings.printerEnable = true → s.port.reading = none → s.port.due = none →
    let limit := s.store.settings.busyLimit
    let clean := if s.port.mode = .block then { s.port with fifo := [], fifoError := false } else s.port
    (∀ x before j after, s.port.mode ≠ .status → s.port.segment = some x → x.offered = true →
      s.port.stopping = false → Printing s before j after .printing →
      Happens c s [.port, .pins, .print] fun t => t.pins = pins
        ∧ t.port = readBegun cause limit { clean with current := none, segment := none, discardPending := true }
        ∧ t.print = { s.print with jobs := before ++ { j with restart := true } :: after })
    ∧ (∀ x, s.port.mode = .compat → s.port.segment = some x → x.offered = false → s.port.stopping = false →
      Happens c s [.port, .pins] fun t => t.pins = pins
        ∧ t.port = readBegun cause limit { s.port with
          current := none
          segment := some { x with begun := false, ahead := [], coded := [], accepted := 0 } })
    ∧ (s.port.mode = .compat → s.port.segment = none → s.print.order = [] → s.port.stopping = true →
      c = .busyTimerExpiry →
      Happens c s [.port] fun t => t.port = readBegun cause limit { s.port with
        current := none, stopping := false, discardPending := true })
    ∧ (s.port.mode = .compat → s.port.segment = none → s.print.order = [] → s.port.stopping = false →
      Happens c s [.port, .pins] fun t => t.pins = pins
        ∧ t.port = readBegun cause limit { s.port with current := none })

/-- R184, R189: the reads that interrupt nothing. A change to deasserted waits for the byte awaiting acceptance, which is a
byte that is ready, offered or not (notes/assumptions/20.md); a change during a read, and a poll expiry during one, are held as
the one further read due; a poll expiry starts the timer again and its read. At a disabled port a change of level is not acted
on. A level that is already held, and the expiry of a poll or busy timer that does not run, do nothing
(notes/assumptions/18.md). -/
def Obligations.FurtherReadsAreHeld : Prop :=
  ∀ (s : State) (line : PrinterLine) (level : Bool), s.power = .running →
    let c : Instr := .printerLineChange line level
    let held := match line with
      | .fault => s.pins.printerFault
      | .paperOut => s.pins.printerPaperOut
    let pins := match line with
      | .fault => { s.pins with printerFault := level }
      | .paperOut => { s.pins with printerPaperOut := level }
    let limit := s.store.settings.busyLimit
    let further := some (s.port.due.getD .other)
    (held = level → Happens c s [] fun _ => True)
    ∧ (held ≠ level → s.store.settings.printerEnable = false → Happens c s [.pins] fun t => t.pins = pins)
    ∧ (held ≠ level → s.store.settings.printerEnable = true → level = false → s.port.reading = none →
      s.port.current ≠ none → PrintQuiet s →
      Happens c s [.pins, .port] fun t => t.pins = pins ∧ t.port = { s.port with due := further })
    ∧ (held ≠ level → s.store.settings.printerEnable = true → level = false → s.port.reading = none →
      s.port.due = none → s.port.current = none → s.port.mode = .compat → s.print.order = [] →
      Happens c s [.pins, .port] fun t => t.pins = pins ∧ t.port = readBegun .other limit s.port)
    ∧ (held ≠ level → s.store.settings.printerEnable = true → s.port.reading ≠ none → s.port.current = none →
      s.port.segment = none → s.port.mode = .status → s.print.order = [] →
      Happens c s [.pins, .port] fun t => t.pins = pins ∧ t.port = { s.port with due := further })
    ∧ (s.port.pollTimer = none → Happens .pollTimerExpiry s [] fun _ => True)
    ∧ (s.port.busyTimer = none → Happens .busyTimerExpiry s [] fun _ => True)
    ∧ (s.port.pollTimer ≠ none → s.store.settings.printerEnable = true → s.port.current = none →
      s.print.order = [] →
      (s.port.mode = .compat → s.port.reading = none → s.port.due = none →
        Happens .pollTimerExpiry s [.port] fun t =>
          t.port = readBegun .other limit { s.port with pollTimer := some 2000 })
      ∧ (s.port.mode = .status → s.port.reading ≠ none →
        Happens .pollTimerExpiry s [.port] fun t =>
          t.port = { s.port with pollTimer := some 2000, due := further }))

/-! ## Reset -/

/-- Every invariant of this file holds at State.reset. What the nonvolatile store, the straps and the input levels are there
is the model's choice (notes/assumptions/3.md, notes/assumptions/4.md). -/
def Obligations.InvariantsHoldAtReset : Prop :=
  ReplyInv State.reset ∧ EchoInv State.reset ∧ ResetInv State.reset ∧ LinkInv State.reset ∧ ArbiterInv State.reset
    ∧ ScaleFaultInv State.reset ∧ RingInv State.reset
    ∧ CounterInv State.reset ∧ TotalInv State.reset ∧ DrawerInv State.reset
end

