-- ==== Sys2Proof/Laws/Card.lean ====
section
/-! SUPPORT. What the masked form of account digits shows (R73). -/

namespace Sys2Proof.Machine

/-- Whatever the number, one place is starred. -/
theorem starDigits_starred (n : Nat) {digits : List Byte} (h : digits ≠ []) : 0x2A#8 ∈ starDigits n digits := by
  have hp : n % digits.length < digits.length := Nat.mod_lt _ (List.length_pos_of_ne_nil h)
  exact List.mem_mapIdx.mpr ⟨n % digits.length, hp, by simp⟩

/-- The masked form the Card Unit forms is one R73 allows: it keeps what it should, and one place at least is starred. -/
theorem maskDigits_maskOf (k m : Nat) {digits : List Byte} (h : digits ≠ []) :
    MaskOf k m digits (maskDigits k m digits) := by
  unfold maskDigits
  split
  · rename_i hk
    have kept : ∀ i, i < digits.length →
        (digits.take k ++ List.replicate (digits.length - k - m) 0x2A#8 ++ digits.drop (digits.length - m))[i]?
          = if i < k ∨ digits.length ≤ i + m then digits[i]? else some 0x2A#8 := by
      intro i hi
      simp only [List.getElem?_append, List.length_append, List.length_take, List.length_replicate, List.getElem?_take,
        List.getElem?_replicate, List.getElem?_drop]
      split
      · split
        · rw [if_pos (by omega), if_pos (by omega)]
        · rw [if_pos (by omega), if_neg (by omega)]
      · rw [if_pos (by omega)]
        congr 1
        omega
    refine ⟨by simp; omega, fun _ => kept, fun i hi => ?_, ?_⟩
    · rw [kept i hi]; split <;> simp
    · simp [List.mem_replicate]; omega
  · rename_i hk
    exact ⟨by simp [starDigits], fun h => absurd h hk, fun i hi => by
      simp only [starDigits, List.getElem?_mapIdx, List.getElem?_eq_getElem hi]
      simp only [Option.map_some]
      split <;> simp, starDigits_starred _ h⟩

end Sys2Proof.Machine
end

