-- ==== Sys2Proof/Laws/State.lean ====
section
/-! SUPPORT. One lemma per field per update of the state, true by `rfl`. -/

namespace Sys2Proof.Machine

section Power

@[simp] theorem State.setPower_power (s : State) (x) : (s.setPower x).power = x := rfl
@[simp] theorem State.setPower_pins (s : State) (x) : (s.setPower x).pins = s.pins := rfl
@[simp] theorem State.setPower_straps (s : State) (x) : (s.setPower x).straps = s.straps := rfl
@[simp] theorem State.setPower_link (s : State) (x) : (s.setPower x).link = s.link := rfl
@[simp] theorem State.setPower_scale (s : State) (x) : (s.setPower x).scale = s.scale := rfl
@[simp] theorem State.setPower_card (s : State) (x) : (s.setPower x).card = s.card := rfl
@[simp] theorem State.setPower_staff (s : State) (x) : (s.setPower x).staff = s.staff := rfl
@[simp] theorem State.setPower_ticket (s : State) (x) : (s.setPower x).ticket = s.ticket := rfl
@[simp] theorem State.setPower_journal (s : State) (x) : (s.setPower x).journal = s.journal := rfl
@[simp] theorem State.setPower_drawer (s : State) (x) : (s.setPower x).drawer = s.drawer := rfl
@[simp] theorem State.setPower_lamps (s : State) (x) : (s.setPower x).lamps = s.lamps := rfl
@[simp] theorem State.setPower_print (s : State) (x) : (s.setPower x).print = s.print := rfl
@[simp] theorem State.setPower_port (s : State) (x) : (s.setPower x).port = s.port := rfl
@[simp] theorem State.setPower_store (s : State) (x) : (s.setPower x).store = s.store := rfl
@[simp] theorem State.setPower_draws (s : State) (x) : (s.setPower x).draws = s.draws := rfl
@[simp] theorem State.setPower_pending (s : State) (x) : (s.setPower x).pending = s.pending := rfl
@[simp] theorem State.setPower_setPower (s : State) (x y) : (s.setPower x).setPower y = s.setPower y := rfl

end Power

section Pins

@[simp] theorem State.setPins_power (s : State) (x) : (s.setPins x).power = s.power := rfl
@[simp] theorem State.setPins_pins (s : State) (x) : (s.setPins x).pins = x := rfl
@[simp] theorem State.setPins_straps (s : State) (x) : (s.setPins x).straps = s.straps := rfl
@[simp] theorem State.setPins_link (s : State) (x) : (s.setPins x).link = s.link := rfl
@[simp] theorem State.setPins_scale (s : State) (x) : (s.setPins x).scale = s.scale := rfl
@[simp] theorem State.setPins_card (s : State) (x) : (s.setPins x).card = s.card := rfl
@[simp] theorem State.setPins_staff (s : State) (x) : (s.setPins x).staff = s.staff := rfl
@[simp] theorem State.setPins_ticket (s : State) (x) : (s.setPins x).ticket = s.ticket := rfl
@[simp] theorem State.setPins_journal (s : State) (x) : (s.setPins x).journal = s.journal := rfl
@[simp] theorem State.setPins_drawer (s : State) (x) : (s.setPins x).drawer = s.drawer := rfl
@[simp] theorem State.setPins_lamps (s : State) (x) : (s.setPins x).lamps = s.lamps := rfl
@[simp] theorem State.setPins_print (s : State) (x) : (s.setPins x).print = s.print := rfl
@[simp] theorem State.setPins_port (s : State) (x) : (s.setPins x).port = s.port := rfl
@[simp] theorem State.setPins_store (s : State) (x) : (s.setPins x).store = s.store := rfl
@[simp] theorem State.setPins_draws (s : State) (x) : (s.setPins x).draws = s.draws := rfl
@[simp] theorem State.setPins_pending (s : State) (x) : (s.setPins x).pending = s.pending := rfl
@[simp] theorem State.setPins_setPins (s : State) (x y) : (s.setPins x).setPins y = s.setPins y := rfl

end Pins

section Straps

@[simp] theorem State.setStraps_power (s : State) (x) : (s.setStraps x).power = s.power := rfl
@[simp] theorem State.setStraps_pins (s : State) (x) : (s.setStraps x).pins = s.pins := rfl
@[simp] theorem State.setStraps_straps (s : State) (x) : (s.setStraps x).straps = x := rfl
@[simp] theorem State.setStraps_link (s : State) (x) : (s.setStraps x).link = s.link := rfl
@[simp] theorem State.setStraps_scale (s : State) (x) : (s.setStraps x).scale = s.scale := rfl
@[simp] theorem State.setStraps_card (s : State) (x) : (s.setStraps x).card = s.card := rfl
@[simp] theorem State.setStraps_staff (s : State) (x) : (s.setStraps x).staff = s.staff := rfl
@[simp] theorem State.setStraps_ticket (s : State) (x) : (s.setStraps x).ticket = s.ticket := rfl
@[simp] theorem State.setStraps_journal (s : State) (x) : (s.setStraps x).journal = s.journal := rfl
@[simp] theorem State.setStraps_drawer (s : State) (x) : (s.setStraps x).drawer = s.drawer := rfl
@[simp] theorem State.setStraps_lamps (s : State) (x) : (s.setStraps x).lamps = s.lamps := rfl
@[simp] theorem State.setStraps_print (s : State) (x) : (s.setStraps x).print = s.print := rfl
@[simp] theorem State.setStraps_port (s : State) (x) : (s.setStraps x).port = s.port := rfl
@[simp] theorem State.setStraps_store (s : State) (x) : (s.setStraps x).store = s.store := rfl
@[simp] theorem State.setStraps_draws (s : State) (x) : (s.setStraps x).draws = s.draws := rfl
@[simp] theorem State.setStraps_pending (s : State) (x) : (s.setStraps x).pending = s.pending := rfl
@[simp] theorem State.setStraps_setStraps (s : State) (x y) : (s.setStraps x).setStraps y = s.setStraps y := rfl

end Straps

section Link

@[simp] theorem State.setLink_power (s : State) (x) : (s.setLink x).power = s.power := rfl
@[simp] theorem State.setLink_pins (s : State) (x) : (s.setLink x).pins = s.pins := rfl
@[simp] theorem State.setLink_straps (s : State) (x) : (s.setLink x).straps = s.straps := rfl
@[simp] theorem State.setLink_link (s : State) (x) : (s.setLink x).link = x := rfl
@[simp] theorem State.setLink_scale (s : State) (x) : (s.setLink x).scale = s.scale := rfl
@[simp] theorem State.setLink_card (s : State) (x) : (s.setLink x).card = s.card := rfl
@[simp] theorem State.setLink_staff (s : State) (x) : (s.setLink x).staff = s.staff := rfl
@[simp] theorem State.setLink_ticket (s : State) (x) : (s.setLink x).ticket = s.ticket := rfl
@[simp] theorem State.setLink_journal (s : State) (x) : (s.setLink x).journal = s.journal := rfl
@[simp] theorem State.setLink_drawer (s : State) (x) : (s.setLink x).drawer = s.drawer := rfl
@[simp] theorem State.setLink_lamps (s : State) (x) : (s.setLink x).lamps = s.lamps := rfl
@[simp] theorem State.setLink_print (s : State) (x) : (s.setLink x).print = s.print := rfl
@[simp] theorem State.setLink_port (s : State) (x) : (s.setLink x).port = s.port := rfl
@[simp] theorem State.setLink_store (s : State) (x) : (s.setLink x).store = s.store := rfl
@[simp] theorem State.setLink_draws (s : State) (x) : (s.setLink x).draws = s.draws := rfl
@[simp] theorem State.setLink_pending (s : State) (x) : (s.setLink x).pending = s.pending := rfl
@[simp] theorem State.setLink_setLink (s : State) (x y) : (s.setLink x).setLink y = s.setLink y := rfl

end Link

section Scale

@[simp] theorem State.setScale_power (s : State) (x) : (s.setScale x).power = s.power := rfl
@[simp] theorem State.setScale_pins (s : State) (x) : (s.setScale x).pins = s.pins := rfl
@[simp] theorem State.setScale_straps (s : State) (x) : (s.setScale x).straps = s.straps := rfl
@[simp] theorem State.setScale_link (s : State) (x) : (s.setScale x).link = s.link := rfl
@[simp] theorem State.setScale_scale (s : State) (x) : (s.setScale x).scale = x := rfl
@[simp] theorem State.setScale_card (s : State) (x) : (s.setScale x).card = s.card := rfl
@[simp] theorem State.setScale_staff (s : State) (x) : (s.setScale x).staff = s.staff := rfl
@[simp] theorem State.setScale_ticket (s : State) (x) : (s.setScale x).ticket = s.ticket := rfl
@[simp] theorem State.setScale_journal (s : State) (x) : (s.setScale x).journal = s.journal := rfl
@[simp] theorem State.setScale_drawer (s : State) (x) : (s.setScale x).drawer = s.drawer := rfl
@[simp] theorem State.setScale_lamps (s : State) (x) : (s.setScale x).lamps = s.lamps := rfl
@[simp] theorem State.setScale_print (s : State) (x) : (s.setScale x).print = s.print := rfl
@[simp] theorem State.setScale_port (s : State) (x) : (s.setScale x).port = s.port := rfl
@[simp] theorem State.setScale_store (s : State) (x) : (s.setScale x).store = s.store := rfl
@[simp] theorem State.setScale_draws (s : State) (x) : (s.setScale x).draws = s.draws := rfl
@[simp] theorem State.setScale_pending (s : State) (x) : (s.setScale x).pending = s.pending := rfl
@[simp] theorem State.setScale_setScale (s : State) (x y) : (s.setScale x).setScale y = s.setScale y := rfl

end Scale

section Card

@[simp] theorem State.setCard_power (s : State) (x) : (s.setCard x).power = s.power := rfl
@[simp] theorem State.setCard_pins (s : State) (x) : (s.setCard x).pins = s.pins := rfl
@[simp] theorem State.setCard_straps (s : State) (x) : (s.setCard x).straps = s.straps := rfl
@[simp] theorem State.setCard_link (s : State) (x) : (s.setCard x).link = s.link := rfl
@[simp] theorem State.setCard_scale (s : State) (x) : (s.setCard x).scale = s.scale := rfl
@[simp] theorem State.setCard_card (s : State) (x) : (s.setCard x).card = x := rfl
@[simp] theorem State.setCard_staff (s : State) (x) : (s.setCard x).staff = s.staff := rfl
@[simp] theorem State.setCard_ticket (s : State) (x) : (s.setCard x).ticket = s.ticket := rfl
@[simp] theorem State.setCard_journal (s : State) (x) : (s.setCard x).journal = s.journal := rfl
@[simp] theorem State.setCard_drawer (s : State) (x) : (s.setCard x).drawer = s.drawer := rfl
@[simp] theorem State.setCard_lamps (s : State) (x) : (s.setCard x).lamps = s.lamps := rfl
@[simp] theorem State.setCard_print (s : State) (x) : (s.setCard x).print = s.print := rfl
@[simp] theorem State.setCard_port (s : State) (x) : (s.setCard x).port = s.port := rfl
@[simp] theorem State.setCard_store (s : State) (x) : (s.setCard x).store = s.store := rfl
@[simp] theorem State.setCard_draws (s : State) (x) : (s.setCard x).draws = s.draws := rfl
@[simp] theorem State.setCard_pending (s : State) (x) : (s.setCard x).pending = s.pending := rfl
@[simp] theorem State.setCard_setCard (s : State) (x y) : (s.setCard x).setCard y = s.setCard y := rfl

end Card

section Staff

@[simp] theorem State.setStaff_power (s : State) (x) : (s.setStaff x).power = s.power := rfl
@[simp] theorem State.setStaff_pins (s : State) (x) : (s.setStaff x).pins = s.pins := rfl
@[simp] theorem State.setStaff_straps (s : State) (x) : (s.setStaff x).straps = s.straps := rfl
@[simp] theorem State.setStaff_link (s : State) (x) : (s.setStaff x).link = s.link := rfl
@[simp] theorem State.setStaff_scale (s : State) (x) : (s.setStaff x).scale = s.scale := rfl
@[simp] theorem State.setStaff_card (s : State) (x) : (s.setStaff x).card = s.card := rfl
@[simp] theorem State.setStaff_staff (s : State) (x) : (s.setStaff x).staff = x := rfl
@[simp] theorem State.setStaff_ticket (s : State) (x) : (s.setStaff x).ticket = s.ticket := rfl
@[simp] theorem State.setStaff_journal (s : State) (x) : (s.setStaff x).journal = s.journal := rfl
@[simp] theorem State.setStaff_drawer (s : State) (x) : (s.setStaff x).drawer = s.drawer := rfl
@[simp] theorem State.setStaff_lamps (s : State) (x) : (s.setStaff x).lamps = s.lamps := rfl
@[simp] theorem State.setStaff_print (s : State) (x) : (s.setStaff x).print = s.print := rfl
@[simp] theorem State.setStaff_port (s : State) (x) : (s.setStaff x).port = s.port := rfl
@[simp] theorem State.setStaff_store (s : State) (x) : (s.setStaff x).store = s.store := rfl
@[simp] theorem State.setStaff_draws (s : State) (x) : (s.setStaff x).draws = s.draws := rfl
@[simp] theorem State.setStaff_pending (s : State) (x) : (s.setStaff x).pending = s.pending := rfl
@[simp] theorem State.setStaff_setStaff (s : State) (x y) : (s.setStaff x).setStaff y = s.setStaff y := rfl

end Staff

section Ticket

@[simp] theorem State.setTicket_power (s : State) (x) : (s.setTicket x).power = s.power := rfl
@[simp] theorem State.setTicket_pins (s : State) (x) : (s.setTicket x).pins = s.pins := rfl
@[simp] theorem State.setTicket_straps (s : State) (x) : (s.setTicket x).straps = s.straps := rfl
@[simp] theorem State.setTicket_link (s : State) (x) : (s.setTicket x).link = s.link := rfl
@[simp] theorem State.setTicket_scale (s : State) (x) : (s.setTicket x).scale = s.scale := rfl
@[simp] theorem State.setTicket_card (s : State) (x) : (s.setTicket x).card = s.card := rfl
@[simp] theorem State.setTicket_staff (s : State) (x) : (s.setTicket x).staff = s.staff := rfl
@[simp] theorem State.setTicket_ticket (s : State) (x) : (s.setTicket x).ticket = x := rfl
@[simp] theorem State.setTicket_journal (s : State) (x) : (s.setTicket x).journal = s.journal := rfl
@[simp] theorem State.setTicket_drawer (s : State) (x) : (s.setTicket x).drawer = s.drawer := rfl
@[simp] theorem State.setTicket_lamps (s : State) (x) : (s.setTicket x).lamps = s.lamps := rfl
@[simp] theorem State.setTicket_print (s : State) (x) : (s.setTicket x).print = s.print := rfl
@[simp] theorem State.setTicket_port (s : State) (x) : (s.setTicket x).port = s.port := rfl
@[simp] theorem State.setTicket_store (s : State) (x) : (s.setTicket x).store = s.store := rfl
@[simp] theorem State.setTicket_draws (s : State) (x) : (s.setTicket x).draws = s.draws := rfl
@[simp] theorem State.setTicket_pending (s : State) (x) : (s.setTicket x).pending = s.pending := rfl
@[simp] theorem State.setTicket_setTicket (s : State) (x y) : (s.setTicket x).setTicket y = s.setTicket y := rfl

end Ticket

section Journal

@[simp] theorem State.setJournal_power (s : State) (x) : (s.setJournal x).power = s.power := rfl
@[simp] theorem State.setJournal_pins (s : State) (x) : (s.setJournal x).pins = s.pins := rfl
@[simp] theorem State.setJournal_straps (s : State) (x) : (s.setJournal x).straps = s.straps := rfl
@[simp] theorem State.setJournal_link (s : State) (x) : (s.setJournal x).link = s.link := rfl
@[simp] theorem State.setJournal_scale (s : State) (x) : (s.setJournal x).scale = s.scale := rfl
@[simp] theorem State.setJournal_card (s : State) (x) : (s.setJournal x).card = s.card := rfl
@[simp] theorem State.setJournal_staff (s : State) (x) : (s.setJournal x).staff = s.staff := rfl
@[simp] theorem State.setJournal_ticket (s : State) (x) : (s.setJournal x).ticket = s.ticket := rfl
@[simp] theorem State.setJournal_journal (s : State) (x) : (s.setJournal x).journal = x := rfl
@[simp] theorem State.setJournal_drawer (s : State) (x) : (s.setJournal x).drawer = s.drawer := rfl
@[simp] theorem State.setJournal_lamps (s : State) (x) : (s.setJournal x).lamps = s.lamps := rfl
@[simp] theorem State.setJournal_print (s : State) (x) : (s.setJournal x).print = s.print := rfl
@[simp] theorem State.setJournal_port (s : State) (x) : (s.setJournal x).port = s.port := rfl
@[simp] theorem State.setJournal_store (s : State) (x) : (s.setJournal x).store = s.store := rfl
@[simp] theorem State.setJournal_draws (s : State) (x) : (s.setJournal x).draws = s.draws := rfl
@[simp] theorem State.setJournal_pending (s : State) (x) : (s.setJournal x).pending = s.pending := rfl
@[simp] theorem State.setJournal_setJournal (s : State) (x y) : (s.setJournal x).setJournal y = s.setJournal y := rfl

end Journal

section Drawer

@[simp] theorem State.setDrawer_power (s : State) (x) : (s.setDrawer x).power = s.power := rfl
@[simp] theorem State.setDrawer_pins (s : State) (x) : (s.setDrawer x).pins = s.pins := rfl
@[simp] theorem State.setDrawer_straps (s : State) (x) : (s.setDrawer x).straps = s.straps := rfl
@[simp] theorem State.setDrawer_link (s : State) (x) : (s.setDrawer x).link = s.link := rfl
@[simp] theorem State.setDrawer_scale (s : State) (x) : (s.setDrawer x).scale = s.scale := rfl
@[simp] theorem State.setDrawer_card (s : State) (x) : (s.setDrawer x).card = s.card := rfl
@[simp] theorem State.setDrawer_staff (s : State) (x) : (s.setDrawer x).staff = s.staff := rfl
@[simp] theorem State.setDrawer_ticket (s : State) (x) : (s.setDrawer x).ticket = s.ticket := rfl
@[simp] theorem State.setDrawer_journal (s : State) (x) : (s.setDrawer x).journal = s.journal := rfl
@[simp] theorem State.setDrawer_drawer (s : State) (x) : (s.setDrawer x).drawer = x := rfl
@[simp] theorem State.setDrawer_lamps (s : State) (x) : (s.setDrawer x).lamps = s.lamps := rfl
@[simp] theorem State.setDrawer_print (s : State) (x) : (s.setDrawer x).print = s.print := rfl
@[simp] theorem State.setDrawer_port (s : State) (x) : (s.setDrawer x).port = s.port := rfl
@[simp] theorem State.setDrawer_store (s : State) (x) : (s.setDrawer x).store = s.store := rfl
@[simp] theorem State.setDrawer_draws (s : State) (x) : (s.setDrawer x).draws = s.draws := rfl
@[simp] theorem State.setDrawer_pending (s : State) (x) : (s.setDrawer x).pending = s.pending := rfl
@[simp] theorem State.setDrawer_setDrawer (s : State) (x y) : (s.setDrawer x).setDrawer y = s.setDrawer y := rfl

end Drawer

section Lamps

@[simp] theorem State.setLamps_power (s : State) (x) : (s.setLamps x).power = s.power := rfl
@[simp] theorem State.setLamps_pins (s : State) (x) : (s.setLamps x).pins = s.pins := rfl
@[simp] theorem State.setLamps_straps (s : State) (x) : (s.setLamps x).straps = s.straps := rfl
@[simp] theorem State.setLamps_link (s : State) (x) : (s.setLamps x).link = s.link := rfl
@[simp] theorem State.setLamps_scale (s : State) (x) : (s.setLamps x).scale = s.scale := rfl
@[simp] theorem State.setLamps_card (s : State) (x) : (s.setLamps x).card = s.card := rfl
@[simp] theorem State.setLamps_staff (s : State) (x) : (s.setLamps x).staff = s.staff := rfl
@[simp] theorem State.setLamps_ticket (s : State) (x) : (s.setLamps x).ticket = s.ticket := rfl
@[simp] theorem State.setLamps_journal (s : State) (x) : (s.setLamps x).journal = s.journal := rfl
@[simp] theorem State.setLamps_drawer (s : State) (x) : (s.setLamps x).drawer = s.drawer := rfl
@[simp] theorem State.setLamps_lamps (s : State) (x) : (s.setLamps x).lamps = x := rfl
@[simp] theorem State.setLamps_print (s : State) (x) : (s.setLamps x).print = s.print := rfl
@[simp] theorem State.setLamps_port (s : State) (x) : (s.setLamps x).port = s.port := rfl
@[simp] theorem State.setLamps_store (s : State) (x) : (s.setLamps x).store = s.store := rfl
@[simp] theorem State.setLamps_draws (s : State) (x) : (s.setLamps x).draws = s.draws := rfl
@[simp] theorem State.setLamps_pending (s : State) (x) : (s.setLamps x).pending = s.pending := rfl
@[simp] theorem State.setLamps_setLamps (s : State) (x y) : (s.setLamps x).setLamps y = s.setLamps y := rfl

end Lamps

section Print

@[simp] theorem State.setPrint_power (s : State) (x) : (s.setPrint x).power = s.power := rfl
@[simp] theorem State.setPrint_pins (s : State) (x) : (s.setPrint x).pins = s.pins := rfl
@[simp] theorem State.setPrint_straps (s : State) (x) : (s.setPrint x).straps = s.straps := rfl
@[simp] theorem State.setPrint_link (s : State) (x) : (s.setPrint x).link = s.link := rfl
@[simp] theorem State.setPrint_scale (s : State) (x) : (s.setPrint x).scale = s.scale := rfl
@[simp] theorem State.setPrint_card (s : State) (x) : (s.setPrint x).card = s.card := rfl
@[simp] theorem State.setPrint_staff (s : State) (x) : (s.setPrint x).staff = s.staff := rfl
@[simp] theorem State.setPrint_ticket (s : State) (x) : (s.setPrint x).ticket = s.ticket := rfl
@[simp] theorem State.setPrint_journal (s : State) (x) : (s.setPrint x).journal = s.journal := rfl
@[simp] theorem State.setPrint_drawer (s : State) (x) : (s.setPrint x).drawer = s.drawer := rfl
@[simp] theorem State.setPrint_lamps (s : State) (x) : (s.setPrint x).lamps = s.lamps := rfl
@[simp] theorem State.setPrint_print (s : State) (x) : (s.setPrint x).print = x := rfl
@[simp] theorem State.setPrint_port (s : State) (x) : (s.setPrint x).port = s.port := rfl
@[simp] theorem State.setPrint_store (s : State) (x) : (s.setPrint x).store = s.store := rfl
@[simp] theorem State.setPrint_draws (s : State) (x) : (s.setPrint x).draws = s.draws := rfl
@[simp] theorem State.setPrint_pending (s : State) (x) : (s.setPrint x).pending = s.pending := rfl
@[simp] theorem State.setPrint_setPrint (s : State) (x y) : (s.setPrint x).setPrint y = s.setPrint y := rfl

end Print

section Port

@[simp] theorem State.setPort_power (s : State) (x) : (s.setPort x).power = s.power := rfl
@[simp] theorem State.setPort_pins (s : State) (x) : (s.setPort x).pins = s.pins := rfl
@[simp] theorem State.setPort_straps (s : State) (x) : (s.setPort x).straps = s.straps := rfl
@[simp] theorem State.setPort_link (s : State) (x) : (s.setPort x).link = s.link := rfl
@[simp] theorem State.setPort_scale (s : State) (x) : (s.setPort x).scale = s.scale := rfl
@[simp] theorem State.setPort_card (s : State) (x) : (s.setPort x).card = s.card := rfl
@[simp] theorem State.setPort_staff (s : State) (x) : (s.setPort x).staff = s.staff := rfl
@[simp] theorem State.setPort_ticket (s : State) (x) : (s.setPort x).ticket = s.ticket := rfl
@[simp] theorem State.setPort_journal (s : State) (x) : (s.setPort x).journal = s.journal := rfl
@[simp] theorem State.setPort_drawer (s : State) (x) : (s.setPort x).drawer = s.drawer := rfl
@[simp] theorem State.setPort_lamps (s : State) (x) : (s.setPort x).lamps = s.lamps := rfl
@[simp] theorem State.setPort_print (s : State) (x) : (s.setPort x).print = s.print := rfl
@[simp] theorem State.setPort_port (s : State) (x) : (s.setPort x).port = x := rfl
@[simp] theorem State.setPort_store (s : State) (x) : (s.setPort x).store = s.store := rfl
@[simp] theorem State.setPort_draws (s : State) (x) : (s.setPort x).draws = s.draws := rfl
@[simp] theorem State.setPort_pending (s : State) (x) : (s.setPort x).pending = s.pending := rfl
@[simp] theorem State.setPort_setPort (s : State) (x y) : (s.setPort x).setPort y = s.setPort y := rfl

end Port

section Store

@[simp] theorem State.setStore_power (s : State) (x) : (s.setStore x).power = s.power := rfl
@[simp] theorem State.setStore_pins (s : State) (x) : (s.setStore x).pins = s.pins := rfl
@[simp] theorem State.setStore_straps (s : State) (x) : (s.setStore x).straps = s.straps := rfl
@[simp] theorem State.setStore_link (s : State) (x) : (s.setStore x).link = s.link := rfl
@[simp] theorem State.setStore_scale (s : State) (x) : (s.setStore x).scale = s.scale := rfl
@[simp] theorem State.setStore_card (s : State) (x) : (s.setStore x).card = s.card := rfl
@[simp] theorem State.setStore_staff (s : State) (x) : (s.setStore x).staff = s.staff := rfl
@[simp] theorem State.setStore_ticket (s : State) (x) : (s.setStore x).ticket = s.ticket := rfl
@[simp] theorem State.setStore_journal (s : State) (x) : (s.setStore x).journal = s.journal := rfl
@[simp] theorem State.setStore_drawer (s : State) (x) : (s.setStore x).drawer = s.drawer := rfl
@[simp] theorem State.setStore_lamps (s : State) (x) : (s.setStore x).lamps = s.lamps := rfl
@[simp] theorem State.setStore_print (s : State) (x) : (s.setStore x).print = s.print := rfl
@[simp] theorem State.setStore_port (s : State) (x) : (s.setStore x).port = s.port := rfl
@[simp] theorem State.setStore_store (s : State) (x) : (s.setStore x).store = x := rfl
@[simp] theorem State.setStore_draws (s : State) (x) : (s.setStore x).draws = s.draws := rfl
@[simp] theorem State.setStore_pending (s : State) (x) : (s.setStore x).pending = s.pending := rfl
@[simp] theorem State.setStore_setStore (s : State) (x y) : (s.setStore x).setStore y = s.setStore y := rfl

end Store

section Draws

@[simp] theorem State.setDraws_power (s : State) (x) : (s.setDraws x).power = s.power := rfl
@[simp] theorem State.setDraws_pins (s : State) (x) : (s.setDraws x).pins = s.pins := rfl
@[simp] theorem State.setDraws_straps (s : State) (x) : (s.setDraws x).straps = s.straps := rfl
@[simp] theorem State.setDraws_link (s : State) (x) : (s.setDraws x).link = s.link := rfl
@[simp] theorem State.setDraws_scale (s : State) (x) : (s.setDraws x).scale = s.scale := rfl
@[simp] theorem State.setDraws_card (s : State) (x) : (s.setDraws x).card = s.card := rfl
@[simp] theorem State.setDraws_staff (s : State) (x) : (s.setDraws x).staff = s.staff := rfl
@[simp] theorem State.setDraws_ticket (s : State) (x) : (s.setDraws x).ticket = s.ticket := rfl
@[simp] theorem State.setDraws_journal (s : State) (x) : (s.setDraws x).journal = s.journal := rfl
@[simp] theorem State.setDraws_drawer (s : State) (x) : (s.setDraws x).drawer = s.drawer := rfl
@[simp] theorem State.setDraws_lamps (s : State) (x) : (s.setDraws x).lamps = s.lamps := rfl
@[simp] theorem State.setDraws_print (s : State) (x) : (s.setDraws x).print = s.print := rfl
@[simp] theorem State.setDraws_port (s : State) (x) : (s.setDraws x).port = s.port := rfl
@[simp] theorem State.setDraws_store (s : State) (x) : (s.setDraws x).store = s.store := rfl
@[simp] theorem State.setDraws_draws (s : State) (x) : (s.setDraws x).draws = x := rfl
@[simp] theorem State.setDraws_pending (s : State) (x) : (s.setDraws x).pending = s.pending := rfl
@[simp] theorem State.setDraws_setDraws (s : State) (x y) : (s.setDraws x).setDraws y = s.setDraws y := rfl

end Draws

section Pending

@[simp] theorem State.setPending_power (s : State) (x) : (s.setPending x).power = s.power := rfl
@[simp] theorem State.setPending_pins (s : State) (x) : (s.setPending x).pins = s.pins := rfl
@[simp] theorem State.setPending_straps (s : State) (x) : (s.setPending x).straps = s.straps := rfl
@[simp] theorem State.setPending_link (s : State) (x) : (s.setPending x).link = s.link := rfl
@[simp] theorem State.setPending_scale (s : State) (x) : (s.setPending x).scale = s.scale := rfl
@[simp] theorem State.setPending_card (s : State) (x) : (s.setPending x).card = s.card := rfl
@[simp] theorem State.setPending_staff (s : State) (x) : (s.setPending x).staff = s.staff := rfl
@[simp] theorem State.setPending_ticket (s : State) (x) : (s.setPending x).ticket = s.ticket := rfl
@[simp] theorem State.setPending_journal (s : State) (x) : (s.setPending x).journal = s.journal := rfl
@[simp] theorem State.setPending_drawer (s : State) (x) : (s.setPending x).drawer = s.drawer := rfl
@[simp] theorem State.setPending_lamps (s : State) (x) : (s.setPending x).lamps = s.lamps := rfl
@[simp] theorem State.setPending_print (s : State) (x) : (s.setPending x).print = s.print := rfl
@[simp] theorem State.setPending_port (s : State) (x) : (s.setPending x).port = s.port := rfl
@[simp] theorem State.setPending_store (s : State) (x) : (s.setPending x).store = s.store := rfl
@[simp] theorem State.setPending_draws (s : State) (x) : (s.setPending x).draws = s.draws := rfl
@[simp] theorem State.setPending_pending (s : State) (x) : (s.setPending x).pending = x := rfl
@[simp] theorem State.setPending_setPending (s : State) (x y) : (s.setPending x).setPending y = s.setPending y := rfl

end Pending

end Sys2Proof.Machine
end

