-- ==== Sys2Proof/Laws/Link.lean ====
section
/-! SUPPORT. What the shared operations of the Link Interface do: channels, admission, responses, the arbiter, and the moment
within which every command acts. -/

namespace Sys2Proof.Machine

/-! ## Channels -/

@[simp] theorem chanOf_setChan (l : Link) (ch : Channel) (c : ChannelState) : chanOf (setChan l ch c) ch = c := by
  cases ch <;> rfl

theorem chanOf_setChan_ne {l : Link} {ch ch' : Channel} {c : ChannelState} (h : ch' ≠ ch) :
    chanOf (setChan l ch c) ch' = chanOf l ch' := by
  cases ch <;> cases ch' <;> first | rfl | exact absurd rfl h

/-- Every field of the Link Interface but the channel's is kept by `setChan`. -/
theorem setChan_fields (l : Link) (ch : Channel) (c : ChannelState) :
    (setChan l ch c).assembler = l.assembler ∧ (setChan l ch c).gapTimer = l.gapTimer
      ∧ (setChan l ch c).errorCount = l.errorCount ∧ (setChan l ch c).degraded = l.degraded
      ∧ (setChan l ch c).owed = l.owed ∧ (setChan l ch c).sending = l.sending ∧ (setChan l ch c).rate = l.rate
      ∧ (setChan l ch c).rateOverride = l.rateOverride ∧ (setChan l ch c).lane = l.lane
      ∧ (setChan l ch c).laneOverride = l.laneOverride ∧ (setChan l ch c).nextId = l.nextId := by
  cases ch <;> simp [setChan]

@[simp] theorem owes_setOwed_self (o : Owed) (k : NoticeKind) (b : Bool) : owes (setOwed o k b) k = b := by
  cases k <;> rfl

theorem owes_setOwed_ne {o : Owed} {k k' : NoticeKind} {b : Bool} (h : k' ≠ k) :
    owes (setOwed o k b) k' = owes o k' := by
  cases k <;> cases k' <;> first | rfl | exact absurd rfl h

/-! ## Agreement on everything but the link's mail -/

/-- Two states agree on every part outside the Link Interface. -/
def Agree (s t : State) : Prop := ∀ p : Part, p.same s t

theorem Agree_refl (s : State) : Agree s s := fun p => by cases p <;> rfl

theorem Agree_trans {s t u : State} (h : Agree s t) (g : Agree t u) : Agree s u := fun p => by
  have a := h p; have b := g p
  cases p <;> simp_all [Part.same]

theorem Agree_setLink (s : State) (l : Link) : Agree s (s.setLink l) := fun p => by cases p <;> rfl

theorem Agree_setDraws (s : State) (d : Draws) : Agree s (s.setDraws d) := fun p => by cases p <;> rfl

theorem Keeps_of_Agree {changed : List Part} {s t u : State} (h : Keeps changed s t) (g : Agree t u) :
    Keeps changed s u := fun p hp => by
  have a := h p hp; have b := g p
  cases p <;> simp_all [Part.same]

theorem Keeps_refl (changed : List Part) (s : State) : Keeps changed s s := fun p _ => by cases p <;> rfl

/-- What `Agree` says, part by part. -/
theorem Agree_iff {s t : State} :
    Agree s t ↔ t.power = s.power ∧ t.pins = s.pins ∧ t.straps = s.straps ∧ t.scale = s.scale ∧ t.card = s.card
      ∧ t.staff = s.staff ∧ t.ticket = s.ticket ∧ t.journal = s.journal ∧ t.drawer = s.drawer ∧ t.lamps = s.lamps
      ∧ t.print = s.print ∧ t.port = s.port ∧ t.store = s.store ∧ t.pending = s.pending := by
  constructor
  · intro h
    exact ⟨h .power, h .pins, h .straps, h .scale, h .card, h .staff, h .ticket, h .journal, h .drawer, h .lamps,
      h .print, h .port, h .store, h .pending⟩
  · rintro ⟨h1, h2, h3, h4, h5, h6, h7, h8, h9, h10, h11, h12, h13, h14⟩ p
    cases p <;> assumption

/-- The mail and the fixed part of the link are the same. -/
structure LinkSame (s t : State) : Prop where
  kept : LinkKept s t
  mail : ∀ ch, MailSame ch s t

theorem LinkSame_refl (s : State) : LinkSame s s :=
  ⟨⟨rfl, rfl, rfl, rfl, rfl, rfl, rfl, rfl, fun _ => rfl, fun _ => rfl⟩, fun _ => ⟨rfl, rfl⟩⟩

theorem LinkKept_trans {s t u : State} (h : LinkKept s t) (g : LinkKept t u) : LinkKept s u :=
  ⟨g.assembler.trans h.assembler, g.gapTimer.trans h.gapTimer, g.errorCount.trans h.errorCount,
    g.degraded.trans h.degraded, g.rate.trans h.rate, g.rateOverride.trans h.rateOverride, g.lane.trans h.lane,
    g.laneOverride.trans h.laneOverride, fun c => (g.life c).trans (h.life c),
    fun c => (g.overrun c).trans (h.overrun c)⟩

theorem MailSame_trans {ch : Channel} {s t u : State} (h : MailSame ch s t) (g : MailSame ch t u) : MailSame ch s u :=
  ⟨g.1.trans h.1, g.2.trans h.2⟩

theorem LinkSame_trans {s t u : State} (h : LinkSame s t) (g : LinkSame t u) : LinkSame s u :=
  ⟨LinkKept_trans h.kept g.kept, fun c => MailSame_trans (h.mail c) (g.mail c)⟩

/-- States whose links differ only in owed marks have the same link mail. -/
theorem LinkSame_of_link {s t : State} (o : Owed) (h : t.link = { s.link with owed := o }) : LinkSame s t := by
  refine ⟨⟨by simp [h], by simp [h], by simp [h], by simp [h], by simp [h], by simp [h], by simp [h], by simp [h],
    fun ch => by rw [h]; cases ch <;> rfl, fun ch => by rw [h]; cases ch <;> rfl⟩, fun ch => ⟨?_, ?_⟩⟩
  · rw [h]; cases ch <;> rfl
  · rw [h]; cases ch <;> rfl

/-! ## The arbiter (R15, R16) -/

theorem startResponse_spec {ch : Channel} {a : Response} {rest : List Response} {s : State}
    (hf : s.link.sending = none) (hq : (chanOf s.link ch).responses = a :: rest) :
    Agree s (startResponse ch a rest s) ∧ LinkSame s (startResponse ch a rest s) := by
  refine ⟨Agree_setLink _ _, ?_⟩
  have key : ∀ ch', chanOf (startResponse ch a rest s).link ch' =
      if ch' = ch then { chanOf s.link ch with responses := rest } else chanOf s.link ch' := by
    intro ch'
    by_cases h : ch' = ch
    · subst h; cases ch' <;> simp [startResponse, setChan, chanOf]
    · cases ch' <;> cases ch <;> first | exact absurd rfl h | simp [startResponse, setChan, chanOf]
  have hs : (startResponse ch a rest s).link.sending =
      some ⟨ch, a.kind, a.tag, nextLife (chanOf s.link ch).life, a.payload, s.link.lane, .response a.id a.change⟩ := by
    cases ch <;> simp [startResponse, setChan]
  refine ⟨⟨?_, ?_, ?_, ?_, ?_, ?_, ?_, ?_, fun ch' => ?_, fun ch' => ?_⟩, fun ch' => ⟨?_, ?_⟩⟩
  all_goals first
    | (rw [key]; split <;> simp_all)
    | skip
  all_goals try (cases ch <;> simp [startResponse, setChan]; done)
  unfold outbox inFlight
  rw [hs, hf, key]
  by_cases h : ch' = ch
  · subst h; simp [responseOf, hq]
  · have h' : ¬ ch = ch' := fun e => h e.symm
    simp [h, h']

theorem startNotice_spec (before : Draws) (ch : Channel) (k : NoticeKind) {s : State} (hf : s.link.sending = none) :
    Agree s (startNotice before ch k s) ∧ LinkSame s (startNotice before ch k s) := by
  have hl : (startNotice before ch k s).link = { s.link with
      owed := setOwed s.link.owed k false
      sending := (startNotice before ch k s).link.sending } := rfl
  refine ⟨Agree_trans (Agree_setDraws _ _) (Agree_setLink _ _), ⟨⟨rfl, rfl, rfl, rfl, rfl, rfl, rfl, rfl,
    fun ch' => ?_, fun ch' => ?_⟩, fun ch' => ⟨?_, ?_⟩⟩⟩
  · rw [hl]; cases ch' <;> rfl
  · rw [hl]; cases ch' <;> rfl
  · rw [hl]; cases ch' <;> rfl
  · have : (chanOf (startNotice before ch k s).link ch').responses = (chanOf s.link ch').responses := by
      rw [hl]; cases ch' <;> rfl
    unfold outbox
    rw [this]
    simp [inFlight, hf, startNotice, responseOf]

/-- The arbiter changes nothing outside the link, and of the link only the owed marks and which response of an outbox is in
transmission. -/
theorem arbitrate_spec (before : Draws) (s : State) :
    Agree s (arbitrate before s) ∧ LinkSame s (arbitrate before s) := by
  unfold arbitrate
  split
  · rename_i hc
    simp only [Bool.and_eq_true, Option.isNone_iff_eq_none] at hc
    split
    · unfold startFrame
      split
      · rename_i hq; exact startResponse_spec hc.1 hq
      · split
        · exact startNotice_spec _ _ _ hc.1
        · exact ⟨Agree_refl s, LinkSame_refl s⟩
    · exact ⟨Agree_refl s, LinkSame_refl s⟩
  · exact ⟨Agree_refl s, LinkSame_refl s⟩

/-- A part of a command that does its own marking is that part, with owed marks added (R14). -/
theorem noting_spec (act : State → State) (s : State) : Agree (act s) (noting act s) ∧ LinkSame (act s) (noting act s) :=
  ⟨Agree_setLink _ _, LinkSame_of_link (noting act s).link.owed rfl⟩

/-- The remaining time reported lies in 1 to the seconds left before, and is what is left after (R84, R95). -/
theorem secondsLeft_bounds (before now : Countdown) (draw : Nat) (h : 0 < now.left) :
    1 ≤ secondsLeft before now draw ∧ secondsLeft before now draw ≤ now.left := by
  unfold secondsLeft remaining
  have := Nat.mod_lt (Config.elapsedReading draw) h
  split
  · split <;> omega
  · omega

/-- In the command that starts a timer the whole length is reported (R84, R95). -/
theorem secondsLeft_begin (c : Countdown) (length draw : Nat) : secondsLeft c (c.begin length) draw = length := by
  simp [secondsLeft, Countdown.begin]

/-- What every moment ends with changes nothing but owed marks and the transmitter (R14, R15). -/
theorem settle_spec (before after : State) : Agree after (settle before after) ∧ LinkSame after (settle before after) := by
  have h := arbitrate_spec before.draws (markChanged before after)
  exact ⟨Agree_trans (Agree_setLink _ _) h.1, LinkSame_trans (LinkSame_of_link (markChanged before after).link.owed rfl) h.2⟩

/-- A moment of a running part: the act, then `settle` (R200). -/
theorem moment_running {act : State → State} {s : State} (h : s.power = .running) :
    moment act s = settle s (act s) := by simp [moment, h]

/-- A part that does not run takes no request or event (R200). -/
theorem moment_stopped {act : State → State} {s : State} (h : s.power ≠ .running) : moment act s = s := by
  simp [moment, h]

/-! ## Responses and admission (R10, R11, R12) -/

/-- The state in which an admitted request is taken (R10). -/
def afterAdmission (s : State) (who : Admitted) : State :=
  s.setLink { setChan s.link who.channel
    { chanOf s.link who.channel with unanswered := (chanOf s.link who.channel).unanswered ++ [who] } with
    nextId := s.link.nextId + 1 }

@[simp] theorem requestEcho_some (id : Nat) (ch : Channel) (kind : Nat) (payload : List Byte) (r : Request) :
    requestEcho id ch kind payload (some r) = weighEcho r := rfl

/-- A little-endian field reads back what was written, whatever follows it (R13). -/
theorem readLE_writeLE (n v : Nat) (rest : List Byte) (h : v < 256 ^ n) :
    readLE n (writeLE n v ++ rest) = some (v, rest) := by
  induction n generalizing v with
  | zero => simp [readLE, writeLE]; omega
  | succ n ih =>
    have h2 : v / 256 < 256 ^ n := Nat.div_lt_of_lt_mul (by rw [Nat.pow_succ] at h; omega)
    simp only [writeLE, List.cons_append, readLE, ih _ h2, Option.map_some, BitVec.toNat_ofNat]
    congr 2; omega

theorem readU32_append {v : Nat} (h : v < 2 ^ 32) (rest : List Byte) : readU32 (u32 v ++ rest) = some (v, rest) :=
  readLE_writeLE 4 v rest h

/-- What reading a 32-bit field of any value leaves. -/
theorem readU32_append_any (v : Nat) (rest : List Byte) : ∃ w, readU32 (u32 v ++ rest) = some (w, rest) := by
  simp [readU32, u32, writeLE, readLE]

@[simp] theorem readChoice_priceBases (base : PriceBase) (rest : List Byte) :
    readChoice priceBases (u8 (priceBaseCode base) ++ rest) = some (base, rest) := by
  cases base <;> rfl

/-- Each of item code, U and base that the payload of a WEIGH holds is echoed (R59). -/
theorem readEcho_echoes (free : WeighEcho) (payload : List Byte) : EchoesPayload payload (readEcho free payload) where
  item item rest h e := by
    subst e
    unfold readEcho
    rw [readU32_append h]
    dsimp only
    repeat' split
    all_goals rfl
  price item price rest h e := by
    subst e
    obtain ⟨w, hw⟩ := readU32_append_any item (u32 price ++ rest)
    unfold readEcho
    rw [List.append_assoc, hw]
    simp only [readU32_append h]
    split <;> rfl
  base item price base rest e := by
    subst e
    obtain ⟨w, hw⟩ := readU32_append_any item (u32 price ++ (u8 (priceBaseCode base) ++ rest))
    obtain ⟨x, hx⟩ := readU32_append_any price (u8 (priceBaseCode base) ++ rest)
    unfold readEcho
    simp only [List.append_assoc, hw, hx, readChoice_priceBases]

/-- The payload of a WEIGH that decodes is echoed as its fields are. -/
theorem readEcho_decoded {free : WeighEcho} {payload : List Byte} {f : WeighFields}
    (h : readWhole readWeigh payload = some (.weigh f)) :
    readEcho free payload = ⟨f.item, f.price, priceBaseCode f.base⟩ := by
  unfold readWhole readWeigh at h
  unfold readEcho
  cases h1 : readU32 payload with
  | none => simp [h1] at h
  | some x =>
    cases h2 : readU32 x.2 with
    | none => simp [h1, h2] at h
    | some y =>
      cases h3 : readChoice priceBases y.2 with
      | none => simp [h1, h2, h3] at h
      | some z =>
        cases h4 : readFlag z.2 with
        | none => simp [h1, h2, h3, h4] at h
        | some u =>
          cases h5 : readU16 u.2 with
          | none => simp [h1, h2, h3, h4, h5] at h
          | some w =>
            simp only [h1, h2, h3, h4, h5, Option.bind_eq_bind, Option.bind_some] at h
            split at h
            · next heq =>
              simp only [Option.some.injEq, Prod.mk.injEq] at heq h
              obtain ⟨rfl, -⟩ := heq
              cases h; simp [h2, h3]
            · cases h

theorem admit_taken {s : State} {ch : Channel} {kind tag : Nat} {echo : Option WeighEcho}
    {body : Admitted → State → State} (h : Admits s ch tag) :
    admitRequest ch kind tag echo body s
      = body (asker s ch kind tag echo) (afterAdmission s (asker s ch kind tag echo)) := by
  obtain ⟨-, h1, h2⟩ := h
  simp [admitRequest, asker, afterAdmission, Config.maxUnanswered, Nat.not_le.mpr h1, h2]

theorem requestArrives_taken {s : State} {ch : Channel} {kind tag : Nat} {r : Request} (h : Admits s ch tag)
    (hr : requestInRange r = true) :
    requestArrives ch kind tag (some r) s
      = takeWellFormed r (asker s ch kind tag (weighEcho r))
          (afterAdmission s (asker s ch kind tag (weighEcho r))) := by
  unfold requestArrives payloadArrives
  rw [admit_taken h]
  simp [takeRequest, wellFormedRequest, hr]

theorem Agree_afterAdmission (s : State) (who : Admitted) : Agree s (afterAdmission s who) := Agree_setLink _ _

theorem Agree_respondWith (r : Admitted) (result : Result) (reason : Reason) (fields : List Byte)
    (change : Option LinkChange) (s : State) : Agree s (respondWith r result reason fields change s) :=
  Agree_setLink _ _

theorem chanOf_nextId (l : Link) (n : Nat) (ch : Channel) : chanOf { l with nextId := n } ch = chanOf l ch := by
  cases ch <;> rfl

/-- After admission the link is as it was but for the channel's unanswered list. -/
theorem afterAdmission_link (s : State) (who : Admitted) :
    LinkKept s (afterAdmission s who)
      ∧ (chanOf (afterAdmission s who).link who.channel).unanswered
          = (chanOf s.link who.channel).unanswered ++ [who]
      ∧ (∀ ch, outbox (afterAdmission s who).link ch = outbox s.link ch)
      ∧ ∀ ch, ch ≠ who.channel → MailSame ch s (afterAdmission s who) := by
  rcases who with ⟨id, ch0, kind, tag, echo⟩
  refine ⟨⟨?_, ?_, ?_, ?_, ?_, ?_, ?_, ?_, fun ch => ?_, fun ch => ?_⟩, ?_, fun ch => ?_, fun ch hne => ⟨?_, ?_⟩⟩
  all_goals try (cases ch0 <;> rfl)
  all_goals cases ch0 <;> cases ch <;> first | rfl | exact absurd rfl hne

/-- A response joins the tail of its channel's outbox and changes nothing else (R12). -/
theorem respondWith_link (r : Admitted) (result : Result) (reason : Reason) (fields : List Byte)
    (change : Option LinkChange) (s : State) :
    LinkKept s (respondWith r result reason fields change s)
      ∧ (chanOf (respondWith r result reason fields change s).link r.channel).unanswered
          = (chanOf s.link r.channel).unanswered
      ∧ outbox (respondWith r result reason fields change s).link r.channel
          = outbox s.link r.channel ++ [⟨r.id, r.kind, r.tag, responsePayload result reason fields, change⟩]
      ∧ ∀ ch, ch ≠ r.channel → MailSame ch s (respondWith r result reason fields change s) := by
  rcases r with ⟨id, ch0, kind, tag, echo⟩
  refine ⟨⟨?_, ?_, ?_, ?_, ?_, ?_, ?_, ?_, fun ch => ?_, fun ch => ?_⟩, ?_, ?_, fun ch hne => ⟨?_, ?_⟩⟩
  all_goals try (cases ch0 <;> rfl)
  all_goals try (cases ch0 <;> cases ch <;> first | rfl | exact absurd rfl hne)
  cases ch0 <;> simp [outbox, inFlight, respondWith, setChan, chanOf]

/-! ## Completion -/

/-- A request row completes when its unit answers it: `u` is what the unit makes of the state, the link apart. -/
theorem completes_of {c : Instr} {s u : State} {ch : Channel} {kind tag : Nat} {r : Request} {result : Result}
    {reason : Reason} {fields : List Byte} {change : Option LinkChange} {changed : List Part} {post : State → Prop}
    (hc : exec c s = .next (moment (requestArrives ch kind tag (some r)) s)) (ha : Admits s ch tag)
    (hr : requestInRange r = true)
    (ht : takeWellFormed r (asker s ch kind tag (weighEcho r))
        (afterAdmission s (asker s ch kind tag (weighEcho r)))
      = respondWith (asker s ch kind tag (weighEcho r)) result reason fields change u)
    (hl : LinkSame (afterAdmission s (asker s ch kind tag (weighEcho r))) u) (hk : Keeps changed s u)
    (hp : ∀ t, Agree u t → post t) :
    Completes c s (asker s ch kind tag (weighEcho r)) (responsePayload result reason fields) change changed post := by
  generalize hw : asker s ch kind tag (weighEcho r) = who at *
  refine ⟨settle s (respondWith who result reason fields change u), ?_, ?_, ?_, ?_, ?_⟩
  · rw [hc, moment_running ha.1, requestArrives_taken ha hr, hw, ht]
  · have h1 := afterAdmission_link s who
    have h3 := respondWith_link who result reason fields change u
    have h4 := (settle_spec s (respondWith who result reason fields change u)).2
    refine ⟨?_, ?_, fun c hne => ?_⟩
    · rw [(h4.mail who.channel).1, h3.2.1, (hl.mail who.channel).1, h1.2.1]
    · rw [(h4.mail who.channel).2, h3.2.2.1, (hl.mail who.channel).2, h1.2.2.1]
    · exact MailSame_trans (h1.2.2.2 c hne) (MailSame_trans (hl.mail c) (MailSame_trans (h3.2.2.2 c hne) (h4.mail c)))
  · exact LinkKept_trans (afterAdmission_link s who).1 (LinkKept_trans hl.kept
      (LinkKept_trans (respondWith_link who result reason fields change u).1 (settle_spec s _).2.kept))
  · exact Keeps_of_Agree hk (Agree_trans (Agree_respondWith _ _ _ _ _ _) (settle_spec s _).1)
  · exact hp _ (Agree_trans (Agree_respondWith _ _ _ _ _ _) (settle_spec s _).1)

/-- An event that leaves the link's mail alone happens. -/
theorem happens_of {c : Instr} {s u : State} {changed : List Part} {post : State → Prop}
    (hc : exec c s = .next (settle s u)) (hl : LinkSame s u) (hk : Keeps changed s u) (hp : ∀ t, Agree u t → post t) :
    Happens c s changed post := by
  have h := settle_spec s u
  exact ⟨_, hc, fun ch => MailSame_trans (hl.mail ch) (h.2.mail ch), LinkKept_trans hl.kept h.2.kept,
    Keeps_of_Agree hk h.1, hp _ h.1⟩

/-- An event that answers one request admitted earlier. -/
theorem answersLater_of {c : Instr} {s u : State} {who : Admitted} {result : Result} {reason : Reason}
    {fields : List Byte} {changed : List Part} {post : State → Prop}
    (hc : exec c s = .next (settle s (respond who result reason fields u))) (hl : LinkSame s u)
    (hk : Keeps changed s u) (hp : ∀ t, Agree u t → post t) :
    AnswersLater c s who (responsePayload result reason fields) changed post := by
  have h := settle_spec s (respond who result reason fields u)
  have h3 := respondWith_link who result reason fields none u
  refine ⟨_, hc, ?_, ?_, fun c hne => ?_, ?_, ?_, ?_⟩
  · exact ((h.2.mail who.channel).1.trans h3.2.1).trans (hl.mail who.channel).1
  · rw [(h.2.mail who.channel).2, ← (hl.mail who.channel).2]; exact h3.2.2.1
  · exact MailSame_trans (hl.mail c) (MailSame_trans (h3.2.2.2 c hne) (h.2.mail c))
  · exact LinkKept_trans hl.kept (LinkKept_trans h3.1 h.2.kept)
  · exact Keeps_of_Agree hk (Agree_trans (Agree_respondWith _ _ _ _ _ _) h.1)
  · exact hp _ (Agree_trans (Agree_respondWith _ _ _ _ _ _) h.1)

end Sys2Proof.Machine
end

