-- ==== Sys2Proof/Laws/Print.lean ====
section
/-! SUPPORT. What the printing side does at once: when nothing is due, and what decides that nothing is due. -/

namespace Sys2Proof.Machine

/-- What a move of the position does: the job takes its new record, with no restart, and JOB_STATE is owed; nothing else
changes (R167). -/
theorem movePosition_spec (j : Job) (s : State) :
    (movePosition j s).print = (putJob { j with restart := false } s).print
      ∧ (movePosition j s).link = { s.link with owed := { s.link.owed with jobState := true } }
      ∧ Keeps [.print] s (movePosition j s) :=
  ⟨rfl, rfl, fun p hp => by cases p <;> first | rfl | exact absurd (List.mem_singleton.2 rfl) hp⟩

/-- A job that leaves WAITING_DATA or HELD takes its new state and holds no restart; nothing else of it changes. -/
theorem toPrinting_spec (j : Job) :
    toPrinting j = { j with state := if j.stall.isSome then .stalled else .printing, restart := false } := rfl

/-- A restart in force holds no job back whose own restart is clear (R174). -/
@[simp] theorem restartWaits_of_clear {s : State} {j : Job} (h : j.restart = false) : restartWaits s j = false := by
  simp [restartWaits, h]

/-- With nothing due, everything the printing side does at once is nothing. -/
theorem run_of_quiet {s : State} (h : PrintQuiet s) : run s = s := by
  have key : ∀ n, progressWithin n s = s := by
    intro n
    cases n with
    | zero => rfl
    | succ n => simp [progressWithin, show progress s = none from h]
  exact key progressBound

/-- Nothing is due exactly when each of the five things that come about at once is not. -/
theorem printQuiet_iff (s : State) :
    PrintQuiet s ↔ readCanStart s = false ∧ blockDrained s.port = false ∧ jobToAdvance s = none
      ∧ jobToStart s = none ∧ nextByte s = none := by
  unfold PrintQuiet progress
  by_cases h1 : readCanStart s = true
  · simp [h1]
  · by_cases h2 : blockDrained s.port = true
    · simp [h1, h2]
    · cases h3 : jobToAdvance s with
      | some j => simp [h1, h2]
      | none => cases h4 : jobToStart s with
        | some j => simp [h1, h2]
        | none => simp [h1, h2]

/-- Whether the port has a byte to move is decided by the port, the BUSY line and the port's enable. -/
theorem nextByte_none_congr {s t : State} (hp : t.port = s.port) (hi : t.pins = s.pins) (hs : t.store = s.store) :
    nextByte t = none ↔ nextByte s = none := by
  simp only [nextByte, hp, hi, hs]
  repeat' split
  all_goals simp_all

/-- Whether anything is due at the printing side is decided by the print queue, the port, the pins and the settings. -/
theorem printQuiet_congr {s t : State} (hj : t.print = s.print) (hp : t.port = s.port) (hi : t.pins = s.pins)
    (hs : t.store = s.store) : PrintQuiet t ↔ PrintQuiet s := by
  rw [printQuiet_iff, printQuiet_iff, nextByte_none_congr hp hi hs]
  have h1 : readCanStart t = readCanStart s := by simp [readCanStart, hp, hs]
  have h2 : jobToStart t = jobToStart s := by simp [jobToStart, hj, hp]
  have h3 : jobToAdvance t = jobToAdvance s := by simp [jobToAdvance, restartWaits, hj, hp]
  rw [h1, h2, h3, hp]

/-- With no job in the print order list no job starts and none advances. -/
theorem jobs_wait_of_empty_order {s : State} (h : s.print.order = []) :
    jobToAdvance s = none ∧ jobToStart s = none := by
  simp [jobToAdvance, jobToStart, printingJob, firstJob, h]

end Sys2Proof.Machine
end

