-- ==== Sys2Proof/Laws/Scale.lean ====
section
/-! SUPPORT. What the shared operations of the Scale Unit do: the operation in flight at a change of scale state, and the
taking of the waiting requests. -/

namespace Sys2Proof.Machine

/-! ## The operation in flight at a change of scale state (R38, R47, R55, R56) -/

/-- An operation that ends without a decision is answered, and nothing is in flight. -/
theorem stopOp_some {s : State} {op : ScaleOp} (h : s.scale.op = some op) (result : Result) (reason : Reason) :
    stopOp result reason s = refuse (opWho op) result reason (endOp s) := by simp [stopOp, h]

theorem stopOp_none {s : State} (h : s.scale.op = none) (result : Result) (reason : Reason) :
    stopOp result reason s = s := by simp [stopOp, h]

/-- With nothing in flight a change of state ends nothing. -/
theorem opAtState_none {s : State} (h : s.scale.op = none) (new : ScaleState) : opAtState new s = s := by
  cases new <;> simp [opAtState, stopOp, h]

/-- At a change to a state other than FAULT the operation in flight goes on as `opEntering` says, or is answered
REJECTED/SCALE_STATE. -/
theorem opAtState_some {s : State} {op : ScaleOp} (h : s.scale.op = some op) {new : ScaleState} (hn : new ≠ .fault) :
    opAtState new s = match opEntering new op with
      | some op' => s.setScale { s.scale with op := some op' }
      | none => refuse (opWho op) .rejected .scaleState (endOp s) := by
  have same : s.setScale { s.scale with op := some op } = s := by rw [← h]; rfl
  cases new <;> cases op <;> simp_all [opAtState, opEntering, stopOp, opWho]

/-- At FAULT the operation in flight is answered FAULT/SCALE_FAULT. -/
theorem opAtState_fault {s : State} {op : ScaleOp} (h : s.scale.op = some op) :
    opAtState .fault s = refuse (opWho op) .fault .scaleFault (endOp s) := by simp [opAtState, stopOp, h]

/-- The operation in flight after a change to a state other than FAULT. -/
theorem opAtState_op (s : State) {new : ScaleState} (hn : new ≠ .fault) :
    (opAtState new s).scale.op = s.scale.op.bind (opEntering new) := by
  cases h : s.scale.op with
  | none => simp [opAtState_none h, h]
  | some op =>
    rw [opAtState_some h hn, Option.bind_some]
    cases opEntering new op <;> rfl

/-- The operation in flight after the entry of a state other than FAULT. -/
theorem enterScale_op (s : State) {new : ScaleState} (hn : new ≠ .fault) :
    (enterScale new s).scale.op = s.scale.op.bind (opEntering new) := by
  rw [enterScale, opAtState_op _ hn]
  cases new <;> rfl

/-! ## Waiting requests (R44) -/

/-- While an operation is in flight nothing is taken. -/
theorem takeWaiting_busy {s : State} (h : s.scale.op.isSome = true) (waiting : List ScaleRequest) :
    takeWaiting waiting s = s.setScale { s.scale with waiting := waiting } := by
  cases waiting <;> simp [takeWaiting, h]

/-- With nothing in flight the oldest request is taken, and the rest after it in the same way. -/
theorem takeWaiting_next {s : State} (h : s.scale.op = none) (q : ScaleRequest) (rest : List ScaleRequest) :
    takeWaiting (q :: rest) s = takeWaiting rest (noting (takeScale q.who q.request) s) := by simp [takeWaiting, h]

/-- With no request waiting nothing is taken. -/
theorem drainScale_none {s : State} (h : s.scale.waiting = []) : drainScale s = s := by
  have same : s.setScale { s.scale with waiting := [] } = s := by rw [← h]; rfl
  simpa [drainScale, h, takeWaiting] using same

/-- While an operation is in flight the waiting requests wait on. -/
theorem drainScale_busy {s : State} (h : s.scale.op.isSome = true) : drainScale s = s := takeWaiting_busy h _

/-- A SCALE request that finds an operation in flight, or a request waiting, joins the waiting requests at their end. -/
theorem scaleRequest_joins {s : State} (h : s.scale.op ≠ none ∨ s.scale.waiting ≠ []) (q : Option Request)
    (who : Admitted) :
    scaleRequest q who s = s.setScale { s.scale with waiting := s.scale.waiting ++ [⟨who, q⟩] } := by
  rcases h with h | h <;> simp [scaleRequest, h]

/-- With nothing in flight or waiting it is taken at once. -/
theorem scaleRequest_taken {s : State} (h : s.scale.op = none) (w : s.scale.waiting = []) (q : Option Request)
    (who : Admitted) : scaleRequest q who s = takeScale who q s := by simp [scaleRequest, h, w]

end Sys2Proof.Machine
end

