-- ==== Sys2Proof/Laws/Ticket.lean ====
section
/-! SUPPORT. What the shared operations of the Ticket Unit, the journal and the call reasons do: one lemma each. -/

namespace Sys2Proof.Machine

/-! ## The journal -/

/-- What an entry makes of the journal depends on the journal alone. -/
theorem journalAs_congr {s t : State} (h : s.journal = t.journal) (o : Nat) (b : EntryBody) :
    (journalAs o b s).journal = (journalAs o b t).journal := by
  unfold journalAs
  rw [State.setJournal_journal, State.setJournal_journal, h]

/-- What entries make of the journal depends on the journal alone. -/
theorem entries_congr (es : List (Nat × EntryBody)) {s t : State} (h : s.journal = t.journal) :
    (es.foldl (fun x e => journalAs e.1 e.2 x) s).journal = (es.foldl (fun x e => journalAs e.1 e.2 x) t).journal := by
  induction es generalizing s t with
  | nil => exact h
  | cons e es ih =>
    rw [List.foldl_cons, List.foldl_cons]
    have hj := journalAs_congr h e.1 e.2
    generalize journalAs e.1 e.2 s = x at hj ⊢
    generalize journalAs e.1 e.2 t = y at hj ⊢
    exact ih hj

/-- Nothing has been written when the journal is the same. -/
theorem wrote_nil {s t : State} (h : t.journal = s.journal) : Wrote [] s t := h

/-- Entries written one list after the other are written in that order. -/
theorem wrote_append {xs ys : List (Nat × EntryBody)} {s t u : State} (h : Wrote xs s t) (g : Wrote ys t u) :
    Wrote (xs ++ ys) s u := by
  unfold Wrote at *
  rw [g, List.foldl_append]
  exact entries_congr ys h

/-- One entry is written (R134, R139). -/
theorem journalAs_wrote (o : Nat) (b : EntryBody) (s : State) : Wrote [(o, b)] s (journalAs o b s) := rfl

/-- An entry with the operator signed on (R139). -/
theorem journal_wrote (b : EntryBody) (s : State) : Wrote [(operatorNumber s, b)] s (journal b s) := rfl

/-! ## Call reasons -/

/-- Raising a reason adds it and changes no other (R157). -/
theorem raiseReason_raised (r : CallReason) (s : State) : Raised r s (raiseReason r s) := by
  constructor
  · cases r <;> simp [raiseReason, setReasons, State.setLamps, callReasons]
  · intro x hx
    cases r <;> cases x <;> simp_all [raiseReason, setReasons, State.setLamps, callReasons]

/-- Clearing a reason removes it and changes no other (R157). -/
theorem clearReason_reasons (r : CallReason) (s : State) :
    (clearReason r s).lamps.reasons = s.lamps.reasons.filter fun x => x != r := rfl

/-- Raising a reason changes nothing but the lamps. -/
theorem raiseReason_keeps (r : CallReason) (s : State) : Keeps [.lamps] s (raiseReason r s) := by
  intro p hp; cases p <;> first | rfl | simp at hp

/-- Clearing a reason changes nothing but the lamps. -/
theorem clearReason_keeps (r : CallReason) (s : State) : Keeps [.lamps] s (clearReason r s) := by
  intro p hp; cases p <;> first | rfl | simp at hp

/-! ## The grant check -/

/-- Without a grant the request is answered NO_GRANT and SUPERVISOR_NEEDED is raised (R92). -/
theorem grantCheck_none {action : GrantAction} {r : Admitted} {accept : Nat → State → State} {s : State}
    (h : s.staff.grant = none) :
    grantCheck action r accept s = respond r .noGrant .none [] (raiseReason .supervisorNeeded s) := by
  simp [grantCheck, h]

/-- With a grant it is consumed, GRANT_USED is journalled, and the request goes on (R92, R94). -/
theorem grantCheck_some {action : GrantAction} {r : Admitted} {accept : Nat → State → State} {s : State} {g : Grant}
    (h : s.staff.grant = some g) :
    grantCheck action r accept s = accept g.supervisor
      (journal (.grantUsed action g.supervisor) (s.setStaff { s.staff with grant := none })) := by
  simp [grantCheck, h]

/-! ## The closing conditions -/

/-- The jobs condition is R126's. -/
theorem jobsCondition_iff (s : State) (n : Nat) : jobsCondition s n = true ↔ JobsMet s n := by
  simp [jobsCondition, JobsMet]

/-- The drawer condition is R126's. -/
theorem drawerCondition_iff (s : State) (n : Nat) : drawerCondition s n = true ↔ DrawerMet s n := by
  simp [drawerCondition, DrawerMet, holdsTicketAuth]

/-- With no settled ticket an evaluation does nothing (R127). -/
theorem evaluateClosing_of_not_settled {s : State} (h : ∀ k, s.ticket.current = some k → k.phase ≠ .settled) :
    evaluateClosing s = s := by
  unfold evaluateClosing
  split
  · rfl
  · rename_i k hk; simp [h k hk]

/-- An evaluation changes nothing but ticket, slot and journal (R127, R128). -/
theorem evaluateClosing_keeps (s : State) : Keeps [.ticket, .card, .journal] s (evaluateClosing s) := by
  intro p hp
  unfold evaluateClosing
  dsimp only
  repeat' split
  all_goals cases p <;> first | (simp at hp; done) | rfl

/-- An evaluation leaves the Link Interface alone. -/
theorem evaluateClosing_link (s : State) : (evaluateClosing s).link = s.link := by
  unfold evaluateClosing
  dsimp only
  repeat' split
  all_goals rfl

/-- The evaluation of a settled ticket stores the three results, or closes it (R126 to R128). -/
theorem evaluateClosing_settled {s : State} {k : Ticket} (h : s.ticket.current = some k) (hk : k.phase = .settled) :
    Judged k [] s (evaluateClosing s) := by
  have hr : receiptCondition k = true ↔ (k.receiptLatch = true ∨ k.receiptWaived = true) := by simp [receiptCondition]
  have hj := jobsCondition_iff s k.number
  have hd := drawerCondition_iff s k.number
  have same : ∀ t : State, t.print = s.print → t.drawer = s.drawer → t.store = s.store →
      (JobsMet t k.number ↔ JobsMet s k.number) ∧ (DrawerMet t k.number ↔ DrawerMet s k.number) := by
    intro t h1 h2 h3; simp [JobsMet, DrawerMet, h1, h2, h3]
  by_cases ha : allMet (evaluated s k) = true
  · have he : evaluateClosing s = closeTicket (evaluated s k) (setCurrent (evaluated s k) s) := by
      simp [evaluateClosing, h, hk, ha]
    have hs := same (evaluateClosing s) (by rw [he]; rfl) (by rw [he]; rfl) (by rw [he]; rfl)
    have hall : (k.receiptLatch = true ∨ k.receiptWaived = true) ∧ JobsMet (evaluateClosing s) k.number
        ∧ DrawerMet (evaluateClosing s) k.number := by
      rw [hs.1, hs.2, ← hr, ← hj, ← hd]
      simpa [allMet, evaluated, and_assoc] using ha
    refine ⟨fun _ => ?_, fun hn => absurd hall hn⟩
    rw [he]
    refine ⟨rfl, rfl, ?_⟩
    have : closingOf k = .ticketClosed (closedEntry (evaluated s k)) := by
      have h1 : ∀ x : Tender, ((x.kind == TenderKind.cash) == true) = isCash x := fun x => by
        cases hx : x.kind <;> simp [isCash, hx]
      have h2 : ∀ x : Tender, ((x.kind == TenderKind.cash) == false) = !isCash x := fun x => by
        cases hx : x.kind <;> simp [isCash, hx]
      simp only [closingOf, closedEntry, evaluated, cashSum, nonCashSum, tenderSum, weighedCount, paid, h1, h2]
    rw [List.nil_append, this]
    rfl
  · have he : evaluateClosing s = setCurrent (evaluated s k) s := by
      simp [evaluateClosing, h, hk, ha]
    have hs := same (evaluateClosing s) (by rw [he]; rfl) (by rw [he]; rfl) (by rw [he]; rfl)
    refine ⟨fun hall => absurd ?_ ha, fun _ => ?_⟩
    · rw [hs.1, hs.2, ← hr, ← hj, ← hd] at hall
      simpa [allMet, evaluated, and_assoc] using hall
    · refine ⟨by rw [he]; rfl, by rw [he]; rfl, receiptCondition k, jobsCondition s k.number, drawerCondition s k.number,
        hr, ?_, ?_, by rw [he]; rfl⟩
      · rw [hs.1, hj]
      · rw [hs.2, hd]

/-- The appended line and the new total of an accepted append (R103). -/
theorem appendLine_fields (t : Ticket) (item : Nat) (amount : Int) (body : LineBody) :
    (appendLine t item amount body).lines = t.lines ++ [⟨t.lines.length + 1, item, amount, false, body⟩]
      ∧ (appendLine t item amount body).total = t.total + amount
      ∧ (appendLine t item amount body).checkMatched = false := ⟨rfl, rfl, rfl⟩

/-- An append keeps the total equal to the sum of the amounts, within its limits, when it is not refused (R101, R103). -/
theorem appendLine_holds {t : Ticket} {item : Nat} {amount : Int} {body : LineBody} (h : ticketHolds t)
    (ha : appendRefusal t amount = none) : ticketHolds (appendLine t item amount body) := by
  unfold appendRefusal at ha
  obtain ⟨h1, h2, h3, h4⟩ := h
  repeat' split at ha
  all_goals simp at ha
  rename_i _ hl hm
  simp [totalInLimit, Config.maxTotal] at hm
  simp [Config.maxLines] at hl
  refine ⟨by simp [appendLine, h1], ?_, ?_, by simp [appendLine]; omega⟩
  · exact of_decide_eq_true hm.1
  · exact of_decide_eq_true hm.2

/-! ## The release of a held job (R173) -/

/-- A held job of the ticket whose insert renders lines hands them at its release, also into STALLED. -/
theorem releaseHeld_hands {s : State} {number n : Nat} {j : Job} {field : InsertField} {t : Ticket}
    {ls : List (List Byte)} (hp : printingJob s.print = some j) (hs : j.state = .held) (hn : j.ticket = some number)
    (hg : segmentAt j = some (.insert field n)) (hc : s.ticket.current = some t)
    (hr : renderInsert s t field n = .lines ls) :
    releaseHeld number s
      = handLines { toPrinting j with printedTotal := j.printedTotal || field == .total } ls s := by
  have h1 : segmentAt (toPrinting j) = some (.insert field n) := hg
  have h2 : (toPrinting j).ticket = some number := hn
  simp only [releaseHeld, renderHeld, reachInsert, hp, hs, hn, h1, h2, hc, hr, and_self, if_true]
  rfl

/-- Any other printing job is left as it is. -/
theorem releaseHeld_other {s : State} {number : Nat}
    (h : ∀ j, printingJob s.print = some j → j.state ≠ .held ∨ j.ticket ≠ some number) : releaseHeld number s = s := by
  unfold releaseHeld
  cases hp : printingJob s.print with
  | none => rfl
  | some j => rcases h j hp with h1 | h1 <;> simp [h1]

end Sys2Proof.Machine
end

