-- ==== Sys2Proof/Tests/Slice0.lean ====
section
/-! SUPPORT. The model's own tests: well-formedness, the table's bits, the manual's worked examples, and for every
obligation a state and operands that meet its hypotheses. -/

namespace Sys2Proof.Tests

open Sys2Proof.Machine

set_option Elab.async false

/-! ## States for the tests -/

/-- The state a command leaves. -/
def after (c : Instr) (s : State) : State :=
  match exec c s with
  | .next t => t
  | .fault _ => s
  | .refused _ => s

/-- A lane at rest whose printer has answered its capability read. -/
def lane : State := { State.reset with port := { Port.reset with presence := .present, capable := true } }

/-- A reading of 512 g without tare. -/
def reading512 : Reading := ⟨512000, 512000, 1, 2, 512, 512, false, false, false, 6000, 15000, 2⟩

/-- A lane with usable metrology (d1 = 2 g, d2 = 10 g) and a scale in READY at 512 g. -/
def weighing : State := { lane with
  store := { Store.reset with metro := { Metro.default with d2 := 10 }, metroValid := true }
  scale := { Scale.reset .ready (some 100) with
    zero := some 0, zero0 := some 0, stable := true, reading := some reading512 } }

/-- `weighing` with its Scale Unit changed. -/
def scaleWith (f : Scale → Scale) : State := weighing.setScale (f weighing.scale)

/-- `weighing` with its filter at rest on a count, its weights those of that count. -/
def atRest (state : ScaleState) (count w : Int) (zero : Option Int) : State := scaleWith fun c => { c with
  state := state, window := List.replicate 32 count, joined := 40, weights := List.replicate 6 w, zero := zero
  zero0 := zero, reading := if state = .ready then some reading512 else none }

/-- The state with an operation in flight. -/
def withOp (op : ScaleOp) (s : State) : State := s.setScale { s.scale with op := some op }

/-- A TARE in flight. -/
def tareOp : ScaleOp := .tare ⟨50, .scale, 2, 2, none⟩ 3000

/-- `weighing` with the CAL switch closed. -/
def calibrating : State := weighing.setPins { weighing.pins with calClosed := true }

/-- The state with its SETTINGS changed. -/
def withSettings (s : State) (f : Settings → Settings) : State :=
  s.setStore { s.store with settings := f s.store.settings }

/-- The state with the settings lock on. -/
def locked (s : State) : State := withSettings s fun g => { g with settingsLock := true }

/-- The state with a save of SETTINGS in flight. -/
def saving (s : State) : State := s.setStore { s.store with
  savingSettings := some ⟨⟨0, .mgmt, 9, 1, none⟩, s.store.settings, 0⟩ }

/-- `calibrating` with a save of METRO in flight as well. -/
def savingBoth : State := (saving calibrating).setStore { (saving calibrating).store with
  savingMetro := some ⟨⟨1, .mgmt, 9, 2, none⟩, calibrating.store.metro, 1⟩, counter := 1 }

/-- A keyed line of 250 minor units. -/
def keyed (n : Nat) : Line := ⟨n, 777, 250, false, .keyed none⟩

/-- A weighed line of 319 minor units. -/
def weighed (n : Nat) : Line := ⟨n, 4011, 319, false, .weighed ⟨512, 512, 0, 623, .perKg, 1, 0⟩⟩

/-- Ticket 7 of operator 1042, open with these lines and a matching total check. -/
def opened (lines : List Line) : Ticket where
  phase := .opened
  number := 7
  operator := 1042
  loyalty := none
  lines := lines
  tenders := []
  total := (lines.map (·.amount)).sum
  rounding := 0
  change := 0
  checkMatched := true
  authorizationRaised := false
  receiptWaived := false
  forced := false
  receiptLatch := false
  receiptMet := false
  jobsMet := false
  drawerMet := false

/-- An OTHER tender of 250. -/
def paid250 : Tender := ⟨.other, 250, some [0x31#8], none⟩

/-- Ticket 7 settled with these lines. -/
def settled (lines : List Line) : Ticket := { opened lines with phase := .settled, tenders := [paid250] }

/-- `weighing` with an operator signed on and this ticket. -/
def selling (k : Ticket) : State := { weighing with staff := ⟨some ⟨1042, .card⟩, none⟩, ticket := ⟨some k, 8⟩ }

/-- The state with a grant of supervisor 9001. -/
def granted (s : State) : State := s.setStaff { s.staff with grant := some ⟨9001, 30⟩ }

/-- The state with the drawer in a state, with the authorization of ticket 7 where that state holds one. -/
def drawerIn (x : DrawerState) (s : State) : State := s.setDrawer { s.drawer with
  state := x
  attempts := if holdsAuth x then 2 else 0
  auth := if holdsAuth x then some ⟨.cash, 7⟩ else none
  pulseTimer := if x = .unlatching then some 60 else none
  confirmTimer := if x = .confirming then some 500 else none
  leftOpenTimer := if x = .opened then some 60 else none }

/-- The state with the debounce timer running at a raw and a debounced level. -/
def debouncing (raw level : Bool) (s : State) : State :=
  (s.setPins { s.pins with senseClosed := raw }).setDrawer
    { s.drawer with debounceTimer := some 20, levelClosed := level }

/-- Characters as bytes. -/
def text (s : String) : List Byte := s.toList.map fun c => BitVec.ofNat 8 c.toNat

/-- The account digits of the worked examples of chapter 4. -/
def digits16 : List Byte := text "4000123456789017"

/-- Their masked form. -/
def masked16 : List Byte := text "400012******9017"

/-- The characters of their stripe record, expiry December 2027. -/
def chars16 : List Byte := 0x53#8 :: (digits16 ++ 0x3D#8 :: text "2712")

/-- A whole reader record with these characters and the right LRC. -/
def record (chars : List Byte) : Instr := .readerRecord (0x02#8 :: (chars ++ [0x03#8, xorOf (chars ++ [0x03#8])]))

/-- An entry of the card range table as entry 2 of the worked example. -/
def entry16 (c : CardClass) : RangeEntry := ⟨40000000, 40999999, 16, 16, c, true, true, 6, 4⟩

/-- The state with that entry in its table, its lane clock at 2025-03-14 09:30:00. -/
def cardLane (c : CardClass) (s : State) : State :=
  (withSettings s fun g => { g with ranges := [entry16 c] }).setJournal { s.journal with clock := some 795259800 }

/-- The card held by the worked example. -/
def held16 (c : CardClass) : HeldCard := ⟨c, .stripe, digits16, masked16, some (text "2712"), 795259800⟩

/-- The state with a slot. -/
def withSlot (x : Slot) (s : State) : State := s.setCard { s.card with slot := x }

/-- A stream job without binding. -/
def streamJob (n : Nat) (state : JobState) (segments : List Segment) : Job :=
  ⟨n, none, true, false, none, state, segments, .own 0, [], false, false, false, none, false⟩

/-- A job that has been submitted. -/
def submitted (j : Job) : Job := { j with submitted := true, reply := some ⟨0, .print, 3, 1, none⟩ }

/-- A FEED of nine dot lines. -/
def feed9 : Segment := .feed 9

/-- The lane with jobs, a print order list and a changed port, the printer busy. -/
def printingLane (jobs : List Job) (order : List Nat) (f : Port → Port) (s : State) : State :=
  ((s.setPrint ⟨jobs, 9, order⟩).setPort (f s.port)).setPins { s.pins with printerBusy := true }

/-- The port with the FEED in transfer, some bytes ahead and its byte `b` offered. -/
def transferring (ahead : List Byte) (b : Byte) (p : Port) : Port := { p with
  segment := some ⟨.bytes [0x1C#8, 0x46#8, 0x09#8], true, ahead, [], true, 0⟩
  current := some ⟨⟨b, false⟩, .segment, true⟩
  busyTimer := some 5000 }

/-- A job in PRINTING with the FEED in transfer. -/
def midFeed : State :=
  printingLane [streamJob 3 .printing [feed9]] [3] (transferring [0x46#8, 0x09#8] 0x1C#8) lane

/-- The last response queued on a channel. -/
def lastAnswer (s : State) (ch : Channel) : Option (List Byte) := (chanOf s.link ch).responses.getLast?.map (·.payload)

/-- Hypotheses in the parts the kernel decides. -/
theorem noPrinting_iff (s : State) :
    NoPrinting s ↔ s.print.jobs = [] ∧ s.print.order = [] ∧ progress s = none :=
  ⟨fun h => ⟨h.jobs, h.order, h.quiet⟩, fun h => ⟨h.1, h.2.1, h.2.2⟩⟩

theorem jobIs_iff (s : State) (before : List Job) (j : Job) (rest : List Job) :
    JobIs s before j rest ↔ s.print.jobs = before ++ j :: rest ∧ ∀ x ∈ before ++ rest, x.number ≠ j.number :=
  ⟨fun h => ⟨h.jobs, h.alone⟩, fun h => ⟨h.1, h.2⟩⟩

theorem printing_iff (s : State) (before : List Job) (j : Job) (rest : List Job) (state : JobState) :
    Printing s before j rest state
      ↔ JobIs s before j rest ∧ s.print.order.head? = some j.number ∧ j.state = state :=
  ⟨fun h => ⟨h.job, h.first, h.state⟩, fun h => ⟨h.1, h.2.1, h.2.2⟩⟩

theorem portOpen_iff (s : State) :
    PortOpen s ↔ s.store.settings.printerEnable = true ∧ s.port.mode = .compat ∧ s.port.stall = none
      ∧ s.port.reading = none ∧ s.port.due = none ∧ s.port.stopping = false :=
  ⟨fun h => ⟨h.enabled, h.mode, h.stall, h.reading, h.due, h.stopping⟩,
    fun h => ⟨h.1, h.2.1, h.2.2.1, h.2.2.2.1, h.2.2.2.2.1, h.2.2.2.2.2⟩⟩

/-! ## Well-formedness and the table's bits -/

/-- Each check of WellFormed refuses a term that breaks it. -/
theorem test_wellFormed_refuses :
    (Instr.powerOn 4 0).wellFormed = false ∧ (Instr.powerOn 0 16).wellFormed = false
      ∧ (Instr.resetLineRelease 4 0).wellFormed = false ∧ (Instr.resetLineRelease 3 16).wellFormed = false
      ∧ (Instr.sampleArrival 8388608 false false).wellFormed = false
      ∧ (Instr.sampleArrival (-8388609) false false).wellFormed = false
      ∧ (Instr.zero 256 (some ())).wellFormed = false ∧ (Instr.setClock 1 (some 4294967296)).wellFormed = false
      ∧ (Instr.weigh 256 (.bytes [])).wellFormed = false
      ∧ (Instr.weigh 1 (.fields ⟨0, 0, .perKg, false, 65536⟩)).wellFormed = false
      ∧ (Instr.weigh 1 (.bytes (List.replicate 1025 0#8))).wellFormed = false := by
  decide +kernel

/-- Each field of a request has its width checked. -/
theorem test_fits_refuses :
    Request.fits (.calPointSet ⟨256, ⟨0, 0⟩⟩) = false ∧ Request.fits (.calPointSet ⟨0, ⟨2147483648, 0⟩⟩) = false
      ∧ Request.fits (.calPointSet ⟨0, ⟨0, -2147483649⟩⟩) = false ∧ Request.fits (.readJournal ⟨0, 256⟩) = false
      ∧ Request.fits (.setItem ⟨256, 0⟩) = false ∧ Request.fits (.tareSet ⟨1, some 4294967296⟩) = false
      ∧ Request.fits (.rangeInsert { entry16 .gift with keepLast := 256 }) = false
      ∧ Request.fits (.fragmentWrite ⟨1, [.raster 256 []]⟩) = false
      ∧ Request.fits (.weigh ⟨0, 0, .perKg, false, 65536⟩) = false
      ∧ Request.fits (.keyedLine ⟨0, some 65536, 0⟩) = false ∧ Request.fits (.totalCheck (2 ^ 63)) = false
      ∧ Request.fits (.cash (2 ^ 64)) = false ∧ Request.fits (.card ⟨1, [0x1F#8]⟩) = false
      ∧ Request.fits (.segment ⟨1, .text .bold (List.replicate 256 0x41#8)⟩) = false
      ∧ Request.fits (.jobOpen ⟨true, 4294967296, false⟩) = false := by
  decide +kernel

/-- A well-formed command passes. -/
theorem test_wellFormed_accepts :
    (Instr.powerOn 3 15).wellFormed = true ∧ (Instr.sampleArrival (-8388608) true true).wellFormed = true
      ∧ (Instr.cash 255 (some (2 ^ 64 - 1))).wellFormed = true := by
  decide +kernel

/-- The table gives no row any bits, so no word spells a command, and the queue stays as it is. -/
theorem test_no_word_spells_a_command (nbits w : Nat) :
    decodeTableWord nbits w = none ∧ State.reset.withFetchWord nbits w = State.reset := ⟨rfl, rfl⟩

/-- From reset, with nothing placed, a step idles; with a command placed it runs. -/
theorem test_step_runs_front :
    step State.reset = .next State.reset
      ∧ step (lane.setPending [.setClock 1 (some 5), .supplyLoss])
        = exec (.setClock 1 (some 5)) (lane.setPending [.supplyLoss]) := ⟨rfl, rfl⟩

/-! ## Worked examples of the manual -/

/-- R13: a KEYED LINE payload written out from chapter 6: item 7,031, quantity 2 present, amount 500. -/
theorem test_keyedLine_payload :
    readWhole readKeyedLine [0x77#8, 0x1B#8, 0x00#8, 0x00#8, 0x01#8, 0x02#8, 0x00#8, 0xF4#8, 0x01#8, 0x00#8, 0x00#8]
      = some (.keyedLine ⟨7031, some 2, 500⟩) := by decide +kernel

/-- R13: a presence byte of 2 and a byte too many are malformed. -/
theorem test_payload_malformed :
    readWhole readKeyedLine [0x77#8, 0x1B#8, 0x00#8, 0x00#8, 0x02#8, 0xF4#8, 0x01#8, 0x00#8, 0x00#8] = none
      ∧ readWhole readKeyedLine [0x77#8, 0x1B#8, 0x00#8, 0x00#8, 0x00#8, 0xF4#8, 0x01#8, 0x00#8, 0x00#8, 0x00#8]
        = none := by decide +kernel

/-- The calibration table of the worked examples of chapter 2. -/
def examplePoints : List CalPoint := [⟨120000, 0⟩, ⟨1320000, 6000000⟩, ⟨2530000, 15000000⟩]

/-- Chapter 2, "gross weight at the limits": weights, and the rounding of w. -/
theorem test_convert_examples :
    convert examplePoints 412345 = 1461725 ∧ convert examplePoints 2000000 = 11057851
      ∧ convert [⟨0, 0⟩, ⟨1000000, 2500000⟩] 1 = 3 ∧ convert [⟨0, 0⟩, ⟨1000000, 2500000⟩] (-1) = -3 := by
  decide +kernel

/-- Chapter 2: displayed gross of 1,460,525 mg, 11,056,651 mg and -1,000 mg. -/
theorem test_displayed_examples :
    displayed 1460525 2 = 1460 ∧ displayed 11056651 5 = 11055 ∧ displayed (-1000) 2 = -2 := by decide +kernel

/-- Chapter 2, arrival 8: the half of 480,970 ÷ 4 rounds toward +∞. -/
theorem test_filtered_half :
    filteredCount 4 8 [120240, 120240, 120246, 120244] = some 120243 := by decide +kernel

/-- Chapter 2: the limits of overload and underload. -/
theorem test_overload_limits :
    (formReading Metro.default 0 0 15045000 false).overload = false
      ∧ (formReading Metro.default 0 0 15045001 false).overload = true
      ∧ (formReading Metro.default 0 0 (-40000) false).underload = false
      ∧ (formReading Metro.default 0 0 (-40001) false).underload = true := by decide +kernel

/-- Chapter 3: the prices of its worked cases. -/
theorem test_price_examples :
    priceOf 1442 349 .perKg = 503 ∧ priceOf 11055 129 .perKg = 1426 ∧ priceOf 1500 333 .perKg = 500
      ∧ priceOf 1442 35 .per100g = 505 ∧ priceOf 60000 999999 .per100g = 599999400 := by decide +kernel

/-- Chapter 3: a net of 39,000 mg displays 40 g and one of 38,999 mg displays 38 g. -/
theorem test_minimum_weighing :
    (formReading Metro.default 0 0 39000 false).displayedNet = 40
      ∧ (formReading Metro.default 0 0 38999 false).displayedNet = 38 := by decide +kernel

/-- Chapter 4: the check digit sums 60, 61 and 70. -/
theorem test_luhn_examples :
    checkDigitSum false digits16.reverse = 60 ∧ checkDigitSum false (text "4000123456789018").reverse = 61
      ∧ checkDigitSum false (text "6200001234567890128").reverse = 70 := by decide +kernel

/-- Chapter 4: the masked forms of its worked example. -/
theorem test_mask_examples :
    maskDigits 6 4 digits16 = masked16 ∧ maskDigits 2 3 (text "9012345678901") = text "90********901" := by
  decide +kernel

/-- R73: with no more digits than are kept, whatever the free value, one '*' stands: here at the twelfth of twelve. -/
theorem test_star_always_stands :
    starDigits 11 (text "400012345678") = text "40001234567*" ∧ starDigits 12 (text "400012345678") = text "*00012345678"
      ∧ starDigits 13 (text "400012345678") = text "**0012345678" := by decide +kernel

/-- R138: the clock reading 795,259,800 is March 2025. -/
theorem test_clock_month : clockMonth 795259800 = (2025, 3) := by decide +kernel

/-- Chapter 4, first swipe: PRESENTED, answered ACK, the slot PRESENTED for 120 s. -/
theorem test_swipe_presented :
    let t := after (record chars16) (cardLane .payment (selling (opened [])))
    t.card.slot = .presented (held16 .payment) 120 ∧ t.card.sending = some ⟨.ack, 9600⟩ := by decide +kernel

/-- Chapter 4, last swipe: February 2025 is before March 2025, EXPIRED. -/
theorem test_swipe_expired :
    (after (record (0x53#8 :: (digits16 ++ 0x3D#8 :: text "2502"))) (cardLane .payment (selling (opened [])))).card.last
      = some ⟨1, .expired, some .payment, some .stripe, some masked16⟩ := by decide +kernel

/-- Chapter 5: a void of a weighed line without a grant raises SUPERVISOR_NEEDED. -/
theorem test_void_needs_grant :
    let t := after (.voidLine 1 (some 1)) (selling (opened [weighed 1]))
    lastAnswer t .ticket = some (responsePayload .noGrant .none []) ∧ t.lamps.reasons = [.supervisorNeeded]
      ∧ t.ticket = (selling (opened [weighed 1])).ticket := by decide +kernel

/-- Chapter 6, the limit: 9,999,999,000 takes 999 and not 999,999,999. -/
theorem test_total_limit :
    let s := selling { opened [] with total := 9999999000 }
    (after (.keyedLine 1 (some ⟨1, none, 999⟩)) s).ticket.current.map (·.total) = some 9999999999
      ∧ lastAnswer (after (.keyedLine 1 (some ⟨1, none, 999999999⟩)) s) .ticket
        = some (responsePayload .limit .none []) := by decide +kernel

/-- Chapter 7: the table of rounding steps. -/
theorem test_rounding_steps :
    roundedDue 1118 5 = 1120 ∧ roundedDue 1117 5 = 1115 ∧ roundedDue 1115 10 = 1120 ∧ roundedDue 1114 10 = 1110
      ∧ roundedDue 2 5 = 0 ∧ roundedDue 3 5 = 5 := by decide +kernel

/-- Chapter 7: CASH 2,000 against 1,118 in steps of 5 settles with adjustment +2 and change 880. -/
theorem test_cash_settles :
    let s := withSettings (selling { opened [] with total := 1118 }) fun g => { g with roundingStep := 5 }
    (after (.cash 1 (some 2000)) s).ticket.current.map (fun k => (k.phase, k.rounding, k.change))
      = some (.settled, 2, 880) := by decide +kernel

/-- Chapter 8, a reader that falls behind: from 995 gives GAP, and the next to read follows the last entry given. -/
theorem test_journal_gap :
    let e (n : Nat) : Entry := ⟨n, 0, 0, .drawerForced⟩
    let s := lane.setJournal ⟨[e 1001, e 1002], 1003, false, none⟩
    lastAnswer (after (.readJournal 1 (some ⟨995, 1⟩)) s) .mgmt
        = some (responsePayload .ok .none (flag true ++ u32 1002 ++ u8 0 ++ u8 1 ++ writeEntry (e 1001)))
      ∧ lastAnswer (after (.readJournal 1 (some ⟨1004, 16⟩)) s) .mgmt = some (responsePayload .badField .none []) := by
  decide +kernel

/-- Chapter 9: at attempts 1 the confirm window gives the second pulse, at attempts 2 the drawer is JAMMED. -/
theorem test_drawer_retries :
    let s (n : Nat) := lane.setDrawer { lane.drawer with
      state := .confirming, attempts := n, auth := some ⟨.cash, 1206⟩, confirmTimer := some 500 }
    ((after .confirmTimerExpiry (s 1)).drawer.state, (after .confirmTimerExpiry (s 1)).drawer.attempts)
        = (.unlatching, 2)
      ∧ (after .confirmTimerExpiry (s 2)).drawer.state = .jammed
      ∧ (after .confirmTimerExpiry (s 2)).lamps.reasons = [.drawerJammed] := by decide +kernel

/-- Chapter 10: the header's INSERT TICKET_NUMBER prints "TICKET 3-1205". -/
theorem test_ticket_number_insert :
    (after (.segment 1 (some ⟨12, .insert .ticketNumber 0⟩))
      (((selling { opened [] with number := 1205 }).setPrint
        ⟨[{ streamJob 12 .waitingData [] with ticket := some 1205 }], 13, [12]⟩).setLink
          { (selling (opened [])).link with lane := 3 })).port.segment.map (·.content)
      = some (.bytes ([0x1C#8, 0x53#8, 0x00#8] ++ text "TICKET 3-1205" ++ [0x0A#8])) := by decide +kernel

/-- Chapter 11: the coded row 02 FF 00 FF 83 00, with CODE at its first and fifth byte. -/
theorem test_coded_row :
    expandRow [0x02#8, 0xFF#8, 0x00#8, 0xFF#8, 0x83#8, 0x00#8]
        = some [0xFF#8, 0x00#8, 0xFF#8, 0x00#8, 0x00#8, 0x00#8, 0x00#8, 0x00#8]
      ∧ (codedRow [0x02#8, 0xFF#8, 0x00#8, 0xFF#8, 0x83#8, 0x00#8]).map (·.code)
        = [true, false, false, false, true, false] := by decide +kernel

/-- Chapter 11, a printer that stops answering: no trouble bits with BUSY asserted after a busy timer is NOT_RESPONDING. -/
theorem test_not_responding :
    (after (.statusAnswer 0x20#8 true) (lane.setPort { lane.port with
      mode := .status, reading := some .busyTimer, busyTimer := some 5000 })).port.stall = some .notResponding := by
  decide +kernel

/-- R14: waiting CLEAR TARE and PRESET TARE that change the tare and change it back leave SCALE_STATE owed. -/
theorem test_reverted_change_is_owed :
    let who (n : Nat) : Admitted := ⟨n, .scale, n, n, none⟩
    let s := (withOp (.tare (who 2) 3000) weighing).setScale { (withOp (.tare (who 2) 3000) weighing).scale with
      tare := some ⟨100, .semi, 0⟩
      waiting := [⟨who 4, some .clearTare⟩, ⟨who 3, some (.presetTare ⟨0, 100⟩)⟩] }
    let quiet := s.setLink { s.link with owed := setOwed s.link.owed .scaleState false }
    (after .motionWaitExpiry quiet).scale.tare = quiet.scale.tare
      ∧ (after .motionWaitExpiry quiet).link.owed.scaleState = true := by decide +kernel

/-- R18, R59: at LANE RESET a WEIGH that waits with an item code out of range, and one answered BAD_FIELD for its tag 0, are
answered ABORTED with item code, U and base echoed and every other field 0. -/
theorem test_aborted_weigh_echoes :
    let f : WeighFields := ⟨0, 349, .perKg, true, 0⟩
    let s := after (.weigh 0 (.fields f)) (after (.weigh 9 (.fields f)) (withOp (.tare ⟨50, .scale, 2, 2, none⟩ 3000) weighing))
    let echo := [1#8, 0#8] ++ u16 0 ++ u32 0 ++ i32 0 ++ u32 0 ++ i32 0 ++ u32 349 ++ u8 0 ++ u32 0 ++ u8 0 ++ u8 0 ++ u32 0
      ++ u8 0 ++ u8 0
    s.link.scale.responses.map (·.payload) = [[4#8, 0#8]]
      ∧ (after (.laneReset 1 (some ())) s).link.scale.responses.map (fun a => (a.tag, a.payload))
        = [(9, echo), (0, echo)] := by decide +kernel

/-- R13, R18, R59: WEIGH requests with a cut wait and with post = 2, and one cut behind U, all waiting, are answered ABORTED at
LANE RESET with item code 7 and U 349 echoed; the base, PER_100G, is in the first two. -/
theorem test_malformed_weigh_echoes :
    let fields := u32 7 ++ u32 349 ++ u8 1
    let s := after (.weigh 3 (.bytes (u32 7 ++ u32 349))) (after (.weigh 2 (.bytes (fields ++ u8 2 ++ u16 0)))
      (after (.weigh 1 (.bytes (fields ++ u8 1 ++ u8 9))) (withOp (.tare ⟨50, .scale, 2, 2, none⟩ 3000) weighing)))
    let front := [1#8, 0#8] ++ u16 0 ++ u32 7 ++ i32 0 ++ u32 0 ++ i32 0 ++ u32 349
    let back := u32 0 ++ u8 0 ++ u8 0 ++ u32 0 ++ u8 0 ++ u8 0
    let answers := (after (.laneReset 9 (some ())) s).link.scale.responses
    (answers.take 2).map (fun a => (a.tag, a.payload)) = [(1, front ++ u8 1 ++ back), (2, front ++ u8 1 ++ back)]
      ∧ (answers.drop 2).map (fun a => (a.tag, a.payload.take 24, a.payload.drop 25)) = [(3, front, back)] := by
  decide +kernel

/-- R44: at the end of a TARE the waiting READ SCALE and CLEAR TARE are answered in their order behind it, the ZERO after them
is in flight on the moving scale, and the last request waits on. -/
theorem test_waiting_requests_are_taken :
    let moving := scaleWith fun c => { c with stable := false, tare := some ⟨100, .semi, 0⟩ }
    let s := after (.tare 5 (some ())) (after (.zero 4 (some ())) (after (.clearTare 3 (some ()))
      (after (.readScale 2 (some ())) (after (.tare 1 (some ())) moving))))
    let t := after .motionWaitExpiry { s with link := { s.link with owed := State.reset.link.owed } }
    s.scale.waiting.map (·.who.tag) = [2, 3, 4] ∧ s.link.scale.overrun = true
      ∧ t.link.scale.responses.map (·.tag) = [1, 2, 3] ∧ t.scale.tare = none
      ∧ t.scale.op.map (fun op => (opWho op).tag) = some 4 ∧ t.scale.waiting = [] := by decide +kernel

/-- R47: a TARE in flight is answered REJECTED/SCALE_STATE when the scale port is turned off. -/
theorem test_tare_ends_with_the_port :
    lastAnswer (after (.setItem 1 (some ⟨21, 0⟩)) (withOp (.tare ⟨50, .scale, 2, 2, none⟩ 3000) weighing)) .scale
      = some (responsePayload .rejected .scaleState []) := by decide +kernel

/-- R185, R188: a FEED interrupted in mid-transfer with a good answer is handed again from its beginning, behind the discard. -/
theorem test_interrupted_segment_is_handed_again :
    let t := after (.statusAnswer 0x20#8 false) (after (.printerLineChange .fault true) midFeed)
    t.port.current = some ⟨⟨0x18#8, false⟩, .discard, true⟩
      ∧ t.port.segment = some ⟨.bytes [0x1C#8, 0x46#8, 0x09#8], false, [], [], false, 0⟩
      ∧ t.print.jobs = [streamJob 3 .printing [feed9]] := by decide +kernel

/-- R171, R173, R174: an ALL_WEIGHED, restarted after its line was voided, renders nothing, and the TOTAL behind it holds the
job; the settlement renders it at once, also while a status read is in progress. -/
theorem test_restart_ends_with_an_empty_insert :
    let j := { streamJob 3 .printing [.insert .allWeighed 0, .insert .total 0] with ticket := some 7, restart := true }
    let k := opened [{ weighed 1 with voided := true }, keyed 2, ⟨3, 4011, -319, false, .void 1⟩]
    let s := printingLane [j] [3] (fun p => { p with mode := .status, reading := some .other, discardPending := true })
      (selling k)
    let held := after (.statusAnswer 0x20#8 false) s
    let sold := after (.other 9 (some ⟨250, [0x41#8]⟩)) (after (.printerLineChange .fault true) held)
    held.print.jobs = [{ j with state := .held, position := .own 1, restart := false }]
      ∧ sold.port.mode = .status ∧ sold.port.segment.isSome
      ∧ sold.print.jobs = [{ j with state := .printing, position := .own 1, printedTotal := true, restart := false }] := by
  decide +kernel

/-- R173, R174, R182: settlement renders the TOTAL of a job held with a stall reason into STALLED; the text waits in the port, and
its first byte is offered when the stall ends. -/
theorem test_total_is_rendered_into_stalled :
    let j := { streamJob 3 .held [.insert .total 0] with ticket := some 7, stall := some .coverOpen }
    let s := printingLane [j] [3] (fun p => { p with mode := .status, reading := some .other, stall := some .coverOpen })
      (selling (opened [keyed 1]))
    let sold := after (.other 9 (some ⟨250, [0x41#8]⟩)) s
    let ended := after (.statusAnswer 0x20#8 false) sold
    sold.print.jobs = [{ j with state := .stalled, printedTotal := true }]
      ∧ sold.port.segment.isSome ∧ sold.port.current = none
      ∧ ended.print.jobs = [{ j with state := .printing, printedTotal := true, stall := none }]
      ∧ ended.port.current = some ⟨⟨0x1C#8, false⟩, .segment, true⟩ := by decide +kernel

/-- R167: two CALLs of one fragment in a row lead the position back to the same place in one command; JOB_STATE is owed. -/
theorem test_position_moves_back_and_is_owed :
    let content := [Segment.call 1, .call 1]
    let j := { streamJob 3 .printing [.call 2] with
      position := .fragment 1 0 [feed9], stack := [.fragment 2 1 content, .own 1] }
    let s := printingLane [j] [3] (transferring [] 0x09#8) (withSettings lane fun g => { g with
      fragments := [feed9] :: content :: List.replicate 30 [] })
    let quiet := s.setLink { s.link with owed := setOwed s.link.owed .jobState false }
    snapshot (after .printerAck quiet) .jobState = snapshot quiet .jobState
      ∧ (after .printerAck quiet).print.jobs = [{ j with stack := [.fragment 2 2 content, .own 1] }]
      ∧ (after .printerAck quiet).link.owed.jobState = true := by decide +kernel

/-- R200: with RESET asserted a loss and a return of the supply leave the part held until the release. -/
theorem test_reset_is_held :
    let s := after (.powerOn 0 0) (after .supplyLoss (after .resetLineAssert lane))
    s.power = .held ∧ (after (.setClock 1 (some 5)) s).journal.clock = none
      ∧ (after (.resetLineRelease 0 0) s).power = .running := by decide +kernel

/-- Chapter 12: an item of METRO is LOCKED with the CAL switch open; an accepted SAVE METRO advances the counter. -/
theorem test_calibration_session :
    lastAnswer (after (.setItem 1 (some ⟨42, 1⟩)) weighing) .mgmt = some (responsePayload .locked .none [])
      ∧ (after (.save 1 (some .metro)) (calibrating.setStore { calibrating.store with counter := 41 })).store.counter
        = 42 := by decide +kernel

/-! ## Witnesses: for every obligation with hypotheses, states and operands that meet them -/

/-- A state whose assembler holds four header bytes, and one that hunts. -/
theorem witness_OverlengthFrameIsDiscarded :
    (lane.power = .running ∧ (lane.setLink { lane.link with
        assembler := .header 1 [0x04#8, 0x03#8, 0x01#8, 0x01#8] }).link.assembler
          = .header 1 [0x04#8, 0x03#8, 0x01#8, 0x01#8]
        ∧ 1024 < byteAt ([0x04#8, 0x03#8, 0x01#8, 0x01#8] ++ [0x01#8, 0x04#8]) 4
          + 256 * byteAt ([0x04#8, 0x03#8, 0x01#8, 0x01#8] ++ [0x01#8, 0x04#8]) 5)
      ∧ lane.link.assembler = .hunting
      ∧ 1024 < byteAt [0x04#8, 0x03#8, 0x01#8, 0x01#8, 0x01#8, 0x04#8] 4
        + 256 * byteAt [0x04#8, 0x03#8, 0x01#8, 0x01#8, 0x01#8, 0x04#8] 5 := by decide +kernel

/-- The longest payload, a request with every kind of field, and a bare one. -/
theorem witness_RequestPayloadReadsBack :
    (Request.fits (.card ⟨2 ^ 64 - 1, List.replicate 255 0x7E#8⟩) = true
      ∧ Request.fits (.rangeInsert ⟨2 ^ 32 - 1, 0, 255, 0, .supervisor, true, false, 255, 0⟩) = true)
      ∧ Request.fits .laneReset = true := by decide +kernel

theorem witness_LaneFrameActsAsItsRequest :
    Request.fits (.keyedLine ⟨7031, some 2, -500⟩) = true ∧ 255 < 256
      ∧ (writeRequest (.keyedLine ⟨7031, some 2, -500⟩)).length ≤ 1024 ∧ lane.link.assembler = .hunting
      ∧ lane.link.gapTimer = none ∧ payloadReader .ticket 3 = some readKeyedLine
      ∧ readWhole readKeyedLine [0x77#8] = none := by
  refine ⟨?_, ?_, ?_, ?_, ?_, rfl, ?_⟩ <;> decide +kernel

/-- A wrong check, the first channel byte beyond the list with a right check, and a running gap timer. -/
theorem witness_UnacceptedFrameIsDiscarded :
    (lane.power = .running ∧ lane.link.assembler = .hunting
      ∧ byteAt [0x04#8, 0x03#8, 0x01#8, 0x01#8, 0x00#8, 0x00#8] 4
        + 256 * byteAt [0x04#8, 0x03#8, 0x01#8, 0x01#8, 0x00#8, 0x00#8] 5 = 0
      ∧ [0x00#8, 0x00#8] ≠ checkHighFirst (frameCheck 1 [0x04#8, 0x03#8, 0x01#8, 0x01#8, 0x00#8, 0x00#8] [])
      ∧ 7 ≤ byteAt [0x07#8, 0x03#8, 0x01#8, 0x01#8, 0x00#8, 0x00#8] 0)
      ∧ (lane.setLink { lane.link with assembler := .header 1 [], gapTimer := some 10 }).link.gapTimer ≠ none := by
  decide +kernel

/-- The first kind beyond the list of MGMT, kind 0, any kind on CARD; four unanswered requests; a first tag; fields out of
range, on SCALE with nothing in flight. -/
theorem witness_UnusableRequestIsRefused :
    (Admits lane .mgmt 255 ∧ requestKinds .mgmt < 21 ∧ Admits lane .card 1 ∧ requestKinds .card < 1)
      ∧ 4 ≤ (chanOf (lane.setLink { lane.link with ticket := { lane.link.ticket with
          unanswered := List.replicate 4 ⟨0, .ticket, 1, 1, none⟩ } }).link (requestChannel .openTicket)).unanswered.length
      ∧ Admits lane (requestChannel .openTicket) 1
      ∧ requestInRange (.cash 10000000000) = false ∧ requestInRange (.presetTare ⟨0, 0⟩) = false
      ∧ requestInRange (.weigh ⟨0, 349, .perKg, true, 0⟩) = false
      ∧ (Admits lane .scale 1 ∧ lane.scale.op = none ∧ lane.scale.waiting = [])
      ∧ readWhole readWeigh (u32 7 ++ u32 349 ++ u8 1 ++ u8 2 ++ u16 0) = none := by
  simp only [Admits]; decide +kernel

/-- A notice, a response without and one with a change of rate. -/
theorem witness_FrameEndAdvancesLife :
    let f : OutFrame := ⟨.print, 1, 0, 17, [], 1, .notice .jobState⟩
    let g : OutFrame := ⟨.mgmt, 8, 9, 63, [], 1, .response 2 (some ⟨some 460800, true, none, false⟩)⟩
    lane.power = .running ∧ (lane.setLink { lane.link with sending := some f }).link.sending = some f
      ∧ (lane.setLink { lane.link with sending := some g }).link.sending = some g := by decide +kernel

/-- At reset the notices of MGMT, the first channel, are owed; DRAWER is the second. -/
theorem witness_CtsAssertionStartsFirstFrame :
    (lane.power = .running ∧ lane.link.sending = none ∧ lane.pins.cts = false ∧ hasToSend lane.link .mgmt = true)
      ∧ (lane.setPins { lane.pins with cts := true }).pins.cts = true
      ∧ (reportedTimer (snapshot ((granted lane).setDraws ⟨0, ⟨0, 0⟩, ⟨1, 30⟩⟩) .operatorState) = some 30
        ∧ ∃ t, exec .laneClockSecond lane = .next t) := by
  refine ⟨by decide +kernel, by decide +kernel, by decide +kernel, _, rfl⟩

/-- The lane at rest, and with a submitted job, meets the invariants, and the step that asserts CTS can be taken. -/
theorem witness_LinkInvariantsAreKept :
    ReplyInv (lane.setPrint ⟨[submitted (streamJob 3 .queued [])], 9, [3]⟩) ∧ LinkInv lane ∧ ArbiterInv lane
      ∧ EchoInv (withOp (.weigh ⟨3, .scale, 5, 5, some ⟨1, 2, 0⟩⟩ ⟨1, 2, .perKg, true, 0⟩ 9 .moving) weighing)
      ∧ ∃ t, step (lane.setPending [.ctsChange true]) = .next t :=
  ⟨by unfold ReplyInv; decide +kernel, ⟨fun ch => by cases ch <;> decide, fun f h => by cases h⟩,
    fun _ _ h => absurd h (by decide), ⟨fun _ _ _ _ h => by cases h; rfl, fun _ h => by cases h⟩, ⟨_, rfl⟩⟩

/-- A keyed line changes the ticket's snapshot. -/
theorem witness_ChangedSnapshotIsOwed :
    let t := after (.keyedLine 1 (some ⟨1, none, 5⟩)) (selling (opened []))
    t.power = .running ∧ snapshot t .ticketState ≠ snapshot (selling (opened [])) .ticketState := by decide +kernel

theorem witness_LinkStatusReportsThenClears : Admits lane .mgmt 255 := by simp only [Admits]; decide +kernel

/-- An index at the number held, one below it, a deletion below the number held and one at it; bounds of count and weight. -/
theorem witness_CalPointsAreSetAndDeleted :
    (Admits calibrating .mgmt 1 ∧ ScaleFaultInv calibrating ∧ calibrating.pins.calClosed = true
      ∧ calibrating.store.savingMetro = none ∧ calibrating.scale.op = none ∧ calibrating.scale.waiting = []
      ∧ 2 = calibrating.store.metro.points.length
      ∧ [CalPoint.mk 0 0, ⟨6000000, 15000000⟩, ⟨8388607, 70000000⟩]
        = calibrating.store.metro.points ++ [⟨8388607, 70000000⟩]
      ∧ [CalPoint.mk 0 0, ⟨6000000, 15000000⟩, ⟨8388607, 70000000⟩].Pairwise
        (fun a b => a.count < b.count ∧ a.weight < b.weight))
      ∧ ([CalPoint.mk (-8388608) (-1000000), ⟨6000000, 15000000⟩]
        = calibrating.store.metro.points.set 0 ⟨-8388608, -1000000⟩
      ∧ [CalPoint.mk (-8388608) (-1000000), ⟨6000000, 15000000⟩].Pairwise
        (fun a b => a.count < b.count ∧ a.weight < b.weight))
      ∧ (1 < calibrating.store.metro.points.length ∧ calibrating.store.metro.points.length ≤ 2)
      ∧ (Admits weighing .mgmt 1 ∧ weighing.pins.calClosed = false ∧ weighing.scale.waiting = [])
      ∧ (savingBoth.pins.calClosed = true ∧ savingBoth.store.savingMetro ≠ none ∧ savingBoth.scale.waiting = [])
      ∧ (Admits (withOp tareOp calibrating) .mgmt 1 ∧ (withOp tareOp calibrating).scale.op = some tareOp
        ∧ (withOp tareOp calibrating).scale.state = .ready ∧ ScaleFaultInv (withOp tareOp calibrating))
      ∧ calibrating.store.metro.points.length < 3
      ∧ ¬ [CalPoint.mk 0 0, ⟨6000000, 15000000⟩, ⟨6000000, 15000001⟩].Pairwise
        (fun a b => a.count < b.count ∧ a.weight < b.weight) := by
  simp only [Admits, ScaleFaultInv]; decide +kernel

/-- The last point held, and the first index beyond it. -/
theorem witness_CalPointReadReportsPoint :
    Admits lane .mgmt 1 ∧ lane.store.metro.points[1]? = some ⟨6000000, 15000000⟩
      ∧ lane.store.metro.points.length ≤ 2 ∧ 7 ≤ 7 ∧ 7 < 8 := by simp only [Admits]; decide +kernel

/-- Outside READY, with a tare, at the zero limit and just beyond, moving; a displayed gross at MAX1 and just beyond. -/
theorem witness_ZeroAndTareAreDecidedOrWait :
    (Admits lane .scale 1 ∧ lane.scale.op = none ∧ lane.scale.waiting = [] ∧ lane.scale.state ≠ .ready)
      ∧ (Admits weighing .scale 1 ∧ weighing.scale.state = .ready ∧ weighing.scale.stable = true
        ∧ weighing.scale.zero0 = some 0 ∧ weighing.scale.reading = some reading512)
      ∧ (scaleWith fun c => { c with tare := some ⟨100, .semi, 0⟩ }).scale.tare ≠ none
      ∧ (300000 - 0 : Int).natAbs ≤ reading512.max2 * weighing.store.metro.zeroSetting * 10
      ∧ reading512.max2 * weighing.store.metro.zeroSetting * 10 < (300001 - 0 : Int).natAbs
      ∧ (scaleWith fun c => { c with stable := false }).scale.stable = false
      ∧ ((6000 : Int) ≤ reading512.max1 ∧ (reading512.max1 : Int) < 6001) := by
  simp only [Admits]; decide +kernel

/-- A keyed value at its top, a code with and without an entry, a value that rounds to 0, a scale that is UNCALIBRATED. -/
theorem witness_PresetTareIsRoundedAndCleared :
    (Admits weighing .scale 1 ∧ weighing.scale.op = none ∧ weighing.scale.waiting = []
      ∧ weighing.scale.state = .ready ∧ lane.scale.state = .uncalibrated)
      ∧ (weighing.store.settings.tares[32 - 1]?).getD none = none
      ∧ ((withSettings weighing fun g => { g with tares := some 60000 :: g.tares.tail }).store.settings.tares[1 - 1]?).getD
        none = some 60000
      ∧ Admits (withSettings weighing fun g => { g with tares := some 60000 :: g.tares.tail }) .scale 255 := by
  simp only [Admits]; decide +kernel

/-- Without a post, and posted to an open ticket. -/
theorem witness_WeighIssuesPricedRecord :
    (Admits (selling (opened [keyed 1])) .scale 1 ∧ (selling (opened [keyed 1])).scale.op = none
      ∧ (selling (opened [keyed 1])).scale.waiting = [] ∧ (selling (opened [keyed 1])).pins.calClosed = false
      ∧ (selling (opened [keyed 1])).scale.state = .ready
      ∧ (selling (opened [keyed 1])).scale.reading = some reading512
      ∧ (selling (opened [keyed 1])).scale.stable = true
      ∧ 20 * (reading512.d1 : Int) ≤ reading512.displayedNet ∧ reading512.displayedGross ≤ reading512.max2)
      ∧ (selling (opened [keyed 1])).ticket.current = some (opened [keyed 1])
      ∧ (opened [keyed 1]).lines.length < 99 ∧ (selling (opened [keyed 1])).scale.rearm = true
      ∧ (9999999999 : Int) < { opened [] with total := 9999999999 }.total + 319 := by
  simp only [Admits]; decide +kernel

/-- CAL mode; OFF and UNCALIBRATED; no open ticket; the same load; a full ticket; and each blocking reason. -/
theorem witness_WeighIsRefusedOrWaits :
    (Admits calibrating .scale 1 ∧ calibrating.pins.calClosed = true)
      ∧ (Admits lane .scale 1 ∧ lane.scale.state = .uncalibrated)
      ∧ (Admits weighing .scale 1 ∧ weighing.ticket.current = none ∧ weighing.scale.state = .ready)
      ∧ (scaleWith fun c => { c with rearm := false }).scale.rearm = false
      ∧ 99 ≤ (opened ((List.range 99).map keyed)).lines.length
      ∧ (scaleWith fun c => { c with state := .settling, reading := none }).scale.state ≠ .ready
      ∧ (scaleWith fun c => { c with reading := some { reading512 with overload := true } }).scale.reading
        = some { reading512 with overload := true }
      ∧ ((39 : Int) < 20 * (reading512.d1 : Int) ∧ (reading512.max2 : Int) < 15001) := by
  simp only [Admits]; decide +kernel

theorem witness_ReadScaleReportsSnapshot :
    readWhole readWeigh (u32 7 ++ u32 349 ++ u8 1) = none ∧ (Admits (withOp tareOp weighing) .scale 1 ∧ (withOp tareOp weighing).scale.op ≠ none
      ∧ requestChannel .readScale = .scale ∧ requestChannel (.weigh ⟨0, 349, .perKg, true, 0⟩) = .scale)
      ∧ (Admits lane .scale 1 ∧ lane.scale.state ≠ .ready)
      ∧ Admits weighing .scale 1 ∧ weighing.scale.op = none ∧ weighing.scale.waiting = []
      ∧ weighing.scale.state = .ready ∧ weighing.scale.reading = some reading512 := by
  simp only [Admits]; decide +kernel

/-- A count at rest at which a filtered count of this weight results. -/
theorem weighs_atRest (state : ScaleState) (zero : Option Int) : Weighs (atRest state 204800 512000 zero) 204800 512000 where
  running := rfl
  divisions := (by decide : 1 ≤ weighing.store.metro.d1 ∧ 1 ≤ weighing.store.metro.d2)
  filter := (by decide : 1 ≤ weighing.store.metro.filterLength ∧ weighing.store.metro.filterLength ≤ 32
    ∧ weighing.store.metro.filterLength ≤ 40 + 1)
  points := (by decide : weighing.store.metro.points.Pairwise fun a b => a.count < b.count)
  weight := ⟨[], ⟨0, 0⟩, ⟨6000000, 15000000⟩, [], rfl, .inl rfl, .inl rfl,
    (by unfold RoundsAway; decide +kernel : RoundsAway ((filteredOf weighing.store.metro.filterLength
      (windowAfter (atRest .ready 204800 512000 none) 204800) - 0) * (15000000 - 0)) ((6000000 : Int) - 0).toNat
      (512000 - 0))⟩

/-- READY and SETTLING; each operation in flight on a stable weight and on a moving one; a captured weight posted to no
ticket, to an open one, to a full one and to one at its limit. -/
theorem witness_ReadySampleFormsReading :
    let s := atRest .ready 204800 512000 (some 0)
    let who : Admitted := ⟨3, .scale, 5, 5, some ⟨1, 2, 0⟩⟩
    (Weighs s 204800 512000 ∧ NearestAway (512000 - 0) (divisionAt s.store.metro 512000) 512
        ∧ StableWindow s.store.metro (weightsAfter s 512000) ∧ s.scale.waiting = [] ∧ s.scale.op = none)
      ∧ EchoInv (withOp (.weigh who ⟨1, 2, .perKg, true, 0⟩ 9 .moving) s)
      ∧ (atRest .settling 204800 512000 (some 0)).scale.zero0 = some 0
      ∧ ¬ StableWindow s.store.metro (weightsAfter (s.setScale { s.scale with weights := [0] }) 512000)
      ∧ (withOp (.zero who 9) s).scale.op = some (.zero who 9) ∧ (withOp (.tare who 9) s).scale.op = some (.tare who 9)
      ∧ ((withOp (.weigh who ⟨1, 2, .perKg, true, 0⟩ 9 .moving) s).scale.op
          = some (.weigh who ⟨1, 2, .perKg, true, 0⟩ 9 .moving)
        ∧ 20 * (s.store.metro.d1 : Int) ≤ 512 ∧ 512 ≤ s.store.metro.max2)
      ∧ (s.ticket.current = none ∧ (opened [keyed 1]).phase = .opened ∧ (opened [keyed 1]).lines.length < 99
        ∧ 99 ≤ (opened ((List.range 99).map keyed)).lines.length
        ∧ (9999999999 : Int) < { opened [] with total := 9999999999 }.total + 1) :=
  ⟨⟨weighs_atRest _ _, ⟨256, by decide +kernel⟩, by unfold StableWindow; decide +kernel, rfl, rfl⟩,
    ⟨fun _ _ _ _ h => by cases h; rfl, fun _ h => by cases h⟩, rfl,
    by unfold StableWindow; decide +kernel, rfl, rfl, ⟨rfl, by decide +kernel⟩, by decide +kernel⟩

/-- OFF; a REF sample and a timer's expiry without and with an operation; each operation with its timer. -/
theorem witness_ScaleFaultsAndWaitsEndOperations :
    let who : Admitted := ⟨3, .scale, 5, 5, some ⟨1, 2, 0⟩⟩
    let s (op : ScaleOp) := scaleWith fun c => { c with op := some op }
    (scaleWith fun c => { c with state := .off }).scale.state = .off
      ∧ (weighing.power = .running ∧ weighing.scale.waiting = [] ∧ weighing.scale.state ≠ .off
        ∧ weighing.scale.state ≠ .fault ∧ weighing.scale.sampleTimer ≠ none ∧ weighing.scale.op = none)
      ∧ (s (.zero who 3000)).scale.op = some (.zero who 3000) ∧ (s (.tare who 3000)).scale.op = some (.tare who 3000)
      ∧ (s (.weigh who ⟨1, 2, .perKg, true, 0⟩ 5000 .moving)).scale.op
        = some (.weigh who ⟨1, 2, .perKg, true, 0⟩ 5000 .moving) := by decide +kernel

/-- Waiting requests behind an operation: a TARE on a moving scale, a WEIGH in SETTLING, those that complete when taken; and the
rows they came from. -/
theorem witness_WaitingRequestsAreTaken :
    let who (kind n : Nat) : Admitted := ⟨n, .scale, kind, n, none⟩
    let f : WeighFields := ⟨1, 2, .perKg, false, 0⟩
    let weigh : ScaleRequest := ⟨⟨7, .scale, 5, 7, some ⟨1, 2, 0⟩⟩, some (.weigh f)⟩
    let unread : ScaleRequest := ⟨⟨9, .scale, 5, 9, some (readEcho (unreadEcho 9) (u32 7 ++ u8 1))⟩, none⟩
    let behind (op : ScaleOp) (waiting : List ScaleRequest) (state : ScaleState) := scaleWith fun c => { c with
      state := state, stable := false, op := some op, waiting := waiting }
    (behind tareOp [⟨who 2 6, some .tare⟩, weigh] .ready).scale.op = some tareOp
      ∧ (behind tareOp [⟨who 2 6, some .tare⟩, weigh] .ready).scale.state = .ready
      ∧ ((behind tareOp [weigh] .settling).scale.waiting = weigh :: [] ∧ weighing.pins.calClosed = false)
      ∧ (∀ q ∈ (behind tareOp [⟨who 6 6, some .readScale⟩, ⟨who 1 7, none⟩] .ready).scale.waiting,
        q.request = none ∨ q.request = some .readScale)
      ∧ WaitsFrom (.weigh 7 (.fields f)) weigh ∧ WaitsFrom (.weigh 9 (.bytes (u32 7 ++ u8 1))) unread
      ∧ WaitsFrom (.tare 6 (some ())) ⟨who 2 6, some .tare⟩
      ∧ ∃ u, exec .motionWaitExpiry (behind tareOp [] .ready) = .next u :=
  ⟨rfl, rfl, ⟨rfl, rfl⟩, by decide +kernel, ⟨.weigh ⟨1, 2, .perKg, false, 0⟩, 7, rfl, by decide, .inl ⟨rfl, rfl⟩⟩,
    ⟨.weigh ⟨1, 2, .perKg, false, 0⟩, 9, rfl, by decide, .inr (.inr ⟨_, by decide, rfl, rfl⟩)⟩, ⟨.tare, 6, rfl, by decide, .inl ⟨rfl, rfl⟩⟩, _, rfl⟩

/-- FAULT with usable and unusable metrology, a window not full, UNCALIBRATED, and the weights that set no zero and one. -/
theorem witness_ScaleLeavesFaultAndSetsZero :
    let fault := scaleWith fun c => { c with state := .fault }
    let unusable := fault.setStore { fault.store with metroValid := false }
    let far := atRest .noZero 2048000 5120000 none
    (fault.power = .running ∧ fault.scale.state = .fault ∧ fault.scale.op = none ∧ fault.scale.waiting = []
        ∧ UsableWith fault.store.metro.points fault ∧ ¬ UsableWith unusable.store.metro.points unusable)
      ∧ weighing.scale.joined + 1 < weighing.store.metro.filterLength
      ∧ ((atRest .uncalibrated 204800 512000 none).scale.state = .uncalibrated
        ∧ (atRest .uncalibrated 204800 512000 none).store.metro.filterLength ≤ 40 + 1)
      ∧ (Weighs (atRest .noZero 204800 512000 none) 204800 512000 ∧ ScaleFaultInv (atRest .noZero 204800 512000 none)
        ∧ StableWindow far.store.metro (weightsAfter (atRest .noZero 204800 512000 none) 512000)
        ∧ (512000 : Int).natAbs ≤ far.store.metro.max2 * far.store.metro.powerUpZero * 10
        ∧ NearestAway 0 (divisionAt far.store.metro 0) 0)
      ∧ (atRest .settling 204800 512000 none).scale.zero = none
      ∧ far.store.metro.max2 * far.store.metro.powerUpZero * 10 < (5120000 : Int).natAbs :=
  ⟨by unfold UsableWith; decide +kernel, by decide +kernel, by decide +kernel,
    ⟨weighs_atRest _ _, by unfold ScaleFaultInv; decide +kernel, by unfold StableWindow; decide +kernel,
      by decide +kernel, 0, by decide +kernel⟩, rfl, by decide +kernel⟩

theorem witness_StartUpLoadsAndResets :
    (3 < 4 ∧ 15 < 16) ∧ (lane.setPower .held).power ≠ .off ∧ lane.power ≠ .off ∧ lane.pins.resetAsserted = false := by
  decide +kernel

/-- A running part with both saves in flight, a held one and one without supply. -/
theorem witness_ResetAndSupplyStopThePart :
    (savingBoth.power = .running ∧ savingBoth.store.savingMetro ≠ none ∧ savingBoth.store.savingSettings ≠ none
      ∧ lane.store.savingMetro = none ∧ lane.store.savingSettings = none)
      ∧ (lane.setPower .held).power ≠ .running ∧ (lane.setPower .off).power = .off
      ∧ Instr.zero 1 (some ()) ≠ .supplyLoss ∧ (after .supplyLoss (after .resetLineAssert lane)).pins.resetAsserted = true
      ∧ ResetInv lane ∧ ResetInv (after .resetLineAssert lane)
      ∧ ∃ t, step (lane.setPending [.resetLineAssert]) = .next t := by
  refine ⟨by decide +kernel, by decide +kernel, by decide +kernel, by decide +kernel, by decide +kernel, ?_, ?_, _, rfl⟩
    <;> unfold ResetInv <;> decide +kernel

/-- A sale in progress with a jammed drawer and a submitted job. -/
theorem witness_LaneResetEndsTheSale :
    let s := (drawerIn .jammed (selling (opened [keyed 1]))).setPrint ⟨[submitted (streamJob 3 .printing [feed9])], 9, [3]⟩
    let w := s.setLink { s.link with scale := { s.link.scale with unanswered := [⟨7, .scale, 5, 9, some ⟨0, 349, 0⟩⟩] } }
    (Admits s .mgmt 1 ∧ ReplyInv s) ∧ Admits w .mgmt 1 ∧ ReplyInv w
      ∧ ∃ r ∈ w.link.scale.unanswered, r.echo = some ⟨0, 349, 0⟩ := by
  simp only [Admits, ReplyInv]; decide +kernel

/-- The clock's last reading; from the next sequence, a held entry, one lost, one not issued. -/
theorem witness_ClockIsSetAndJournalRead :
    let s := lane.setJournal ⟨[⟨300, 0, 0, .drawerForced⟩, ⟨301, 0, 0, .drawerLeftOpen⟩], 302, false, none⟩
    (Admits lane .mgmt 1 ∧ lane.power = .running ∧ 4294967295 ≤ 4294967295)
      ∧ (Admits s .mgmt 1 ∧ s.journal.next = 302 ∧ s.journal.wrapped = false)
      ∧ s.journal.ring = [⟨300, 0, 0, .drawerForced⟩] ++ ⟨301, 0, 0, .drawerLeftOpen⟩ :: []
      ∧ (¬ ∃ e ∈ s.journal.ring, e.sequence = 299) ∧ 299 < s.journal.next
      ∧ (¬ ∃ e ∈ s.journal.ring, e.sequence = 303) ∧ ¬ 303 < s.journal.next := by
  simp only [Admits]; decide +kernel

/-- The first and the last item, and the number after it; each refusal and a write of the value held. -/
theorem witness_ItemsAreReadAndWritesChecked :
    (Admits lane .mgmt 1 ∧ (1, 0) ∈ itemTable lane ∧ (50, 100) ∈ itemTable lane
      ∧ ∀ x ∈ itemTable lane, x.1 ≠ 51)
      ∧ itemInRange 1 251 = false ∧ itemInRange 1 250 = true ∧ itemInRange 51 0 = false
      ∧ (itemInRange 50 100 = true ∧ lane.pins.calClosed = false)
      ∧ itemInRange 30 0 = true ∧ (locked lane).store.settings.settingsLock = true
      ∧ (saving lane).store.savingSettings ≠ none ∧ (selling (opened [])).ticket.current ≠ none := by
  simp only [Admits]; decide +kernel

/-- A SETTINGS item, the two items of the link, and METRO items in READY. -/
theorem witness_SetItemWritesItsItem :
    (Admits lane .mgmt 1 ∧ itemInRange 25 48 = true ∧ (25, 48) ∉ itemTable lane ∧ lane.scale.op = none
      ∧ lane.scale.waiting = [] ∧ lane.store.settings.settingsLock = false ∧ lane.store.savingSettings = none)
      ∧ (itemInRange 1 16 = true ∧ (1, 16) ∉ itemTable lane ∧ lane.ticket.current = none)
      ∧ (itemInRange 2 460800 = true ∧ (2, 460800) ∉ itemTable lane)
      ∧ (itemInRange 30 1 = true ∧ (30, 1) ∉ itemTable lane)
      ∧ Admits calibrating .mgmt 1 ∧ itemInRange 40 3000 = true ∧ (40, 3000) ∉ itemTable calibrating
      ∧ calibrating.pins.calClosed = true ∧ calibrating.store.savingMetro = none ∧ calibrating.scale.waiting = []
      ∧ Admits (withOp tareOp calibrating) .mgmt 1 ∧ (withOp tareOp calibrating).scale.op = some tareOp := by
  simp only [Admits]; decide +kernel

/-- An item that clears the filter, each scale state, usable metrology, and an override taken away. -/
theorem witness_SetItemInEachState :
    (itemInRange 44 8 = true ∧ (44, 8) ∉ itemTable calibrating ∧ UsableWith calibrating.store.metro.points calibrating)
      ∧ (∀ x ∈ [ScaleState.off, .fault, .uncalibrated, .settling, .noZero, .ready],
        (scaleWith fun c => { c with state := x }).scale.state = x)
      ∧ Admits (withSettings lane fun g => { g with rateOverride := 460800 }) .mgmt 1
      ∧ (2, 0) ∉ itemTable (withSettings lane fun g => { g with rateOverride := 460800 }) := by
  simp only [Admits, UsableWith]; decide +kernel

/-- Every enable off from a lane at rest, and on again; a lamp source; a reader rate. -/
theorem witness_EnableItemsActAtOnce :
    let off := withSettings lane fun g => { g with
      scaleEnable := false, cardEnable := false, drawerEnable := false, printerEnable := false }
    (Admits lane .mgmt 1 ∧ lane.store.settings.settingsLock = false ∧ lane.store.savingSettings = none
      ∧ lane.scale.op = none ∧ lane.scale.waiting = [] ∧ lane.print.jobs = [] ∧ lane.print.order = []
      ∧ lane.drawer.auth = none ∧ lane.ticket.current = none)
      ∧ (∀ n ∈ [21, 22, 23, 24], itemInRange n 0 = true ∧ (n, 0) ∉ itemTable lane)
      ∧ (Admits off .mgmt 1 ∧ off.port.mode = .compat ∧ off.port.reading = none ∧ off.port.current = none
        ∧ ∀ n ∈ [21, 22, 23, 24], itemInRange n 1 = true ∧ (n, 1) ∉ itemTable off)
      ∧ (itemInRange 5 19200 = true ∧ (5, 19200) ∉ itemTable lane)
      ∧ itemInRange 19 8 = true ∧ (19, 8) ∉ itemTable lane ∧ itemInRange 20 0 = true ∧ (20, 0) ∉ itemTable lane := by
  simp only [Admits]; decide +kernel

/-- The scale port turned off with a TARE in flight. -/
theorem witness_ScalePortEndsTheOperation :
    Admits (withOp tareOp weighing) .mgmt 1 ∧ (21, 0) ∉ itemTable (withOp tareOp weighing)
      ∧ (withOp tareOp weighing).scale.op = some tareOp ∧ (withOp tareOp weighing).scale.waiting = [] := by
  simp only [Admits]; decide +kernel

/-- A flashing lamp during a call, and a drawer port that holds an authorization. -/
theorem witness_LampsFlashAndAuthorizationIsSkipped :
    (itemInRange 20 3 = true ∧ (20, 3) ∉ itemTable (lane.setLamps ⟨[.paperOut], false, false⟩))
      ∧ Admits (drawerIn .jammed (selling (settled []))) .mgmt 1
      ∧ (drawerIn .jammed (selling (settled []))).drawer.auth = some ⟨.cash, 7⟩ := by
  simp only [Admits]; decide +kernel

/-- Each refusal of SAVE, and the two saves in flight. -/
theorem witness_SavesAreTakenAndEnd :
    (Admits lane .mgmt 1 ∧ lane.pins.calClosed = false ∧ lane.store.savingSettings = none)
      ∧ (Admits calibrating .mgmt 1 ∧ calibrating.pins.calClosed = true ∧ calibrating.store.savingMetro = none
        ∧ consistent calibrating.store.metro = true ∧ consistent lane.store.metro = false
        ∧ ¬ 4294967295 ≤ calibrating.store.counter)
      ∧ savingBoth.power = .running ∧ savingBoth.scale.waiting = [] ∧ (withOp tareOp savingBoth).scale.op = some tareOp
      ∧ savingBoth.store.savingMetro = some ⟨⟨1, .mgmt, 9, 2, none⟩, calibrating.store.metro, 1⟩
      ∧ savingBoth.store.putOff = false
      ∧ (savingBoth.setStore { savingBoth.store with putOff := true, metroChanged := true }).store.putOff = true
      ∧ savingBoth.store.savingSettings = some ⟨⟨0, .mgmt, 9, 1, none⟩, calibrating.store.settings, 0⟩ := by
  simp only [Admits]; decide +kernel

/-- Open without and with a capture in flight; closed with a save, with the mark clear and set. -/
theorem witness_CalSwitchDecidesRevert :
    let who : Admitted := ⟨3, .scale, 5, 5, some ⟨1, 2, 0⟩⟩
    let capture : ScaleOp := .weigh who ⟨1, 2, .perKg, true, 0⟩ 5000 .moving
    let marked := calibrating.setStore { calibrating.store with metroChanged := true }
    (weighing.power = .running ∧ weighing.scale.waiting = [] ∧ weighing.pins.calClosed = false
        ∧ weighing.scale.op = none)
      ∧ (scaleWith fun c => { c with op := some capture }).scale.op = some capture
      ∧ (savingBoth.pins.calClosed = true ∧ savingBoth.store.savingMetro ≠ none)
      ∧ (calibrating.store.savingMetro = none ∧ calibrating.store.metroChanged = false)
      ∧ (marked.pins.calClosed = true ∧ marked.store.metroChanged = true)
      ∧ (withOp tareOp marked).scale.op = some tareOp := by decide +kernel

/-- A ticket, a printing job, saves in flight, the lock; and a lane at rest whose stored areas are bad. -/
theorem witness_ReloadIsCheckedAndLoads :
    let s := printingLane [streamJob 3 .waitingData []] [3] id lane
    (Admits (selling (opened [])) .mgmt 1 ∧ (selling (opened [])).ticket.current ≠ none
      ∧ (selling (opened [])).scale.waiting = [])
      ∧ (s.ticket.current = none ∧ printingJob s.print ≠ none)
      ∧ (savingBoth.store.savingMetro ≠ none ∧ (saving lane).store.savingSettings ≠ none)
      ∧ ((locked lane).store.settings.settingsLock = true ∧ (locked lane).pins.calClosed = false)
      ∧ Admits lane .mgmt 1 ∧ lane.scale.waiting = [] ∧ lane.ticket.current = none
      ∧ (withOp tareOp weighing).scale.op = some tareOp ∧ printingJob lane.print = none ∧ lane.store.savingMetro = none ∧ lane.store.savingSettings = none
      ∧ lane.store.settings = Settings.default ∧ lane.store.storedSettings.contents = Settings.default ∧ lane.straps.lr < 4
      ∧ (withSettings lane fun g => { g with laneOverride := 9 }).store.settings.laneOverride
        ≠ Settings.default.laneOverride := by
  simp only [Admits]; decide +kernel

/-- Loads that change every item a unit acts on: from off to on by the defaults, and from on to off by a good stored area,
with an authorization held. -/
theorem witness_ReloadChangesItems :
    let off (g : Settings) : Settings := { g with
      readerRate := 19200, scaleEnable := false, cardEnable := false, drawerEnable := false, printerEnable := false
      lampA := .callSteady }
    let s := withSettings lane off
    let good := lane.setStore { lane.store with storedSettings := sealGood settingsBytes (off Settings.default) }
    (Admits s .mgmt 1 ∧ s.scale.waiting = [] ∧ s.ticket.current = none ∧ printingJob s.print = none
        ∧ s.store.savingSettings = none ∧ s.store.settings.settingsLock = false ∧ s.straps.lr < 4 ∧ s.print.order = []
        ∧ s.port.mode = .compat ∧ s.port.reading = none ∧ s.port.current = none)
      ∧ (good.store.settings.printerEnable = true ∧ good.print.order = []
        ∧ (good.setDrawer { good.drawer with state := .jammed, auth := some ⟨.noSale, 9⟩ }).drawer.auth ≠ none)
      ∧ settingsGood good.store = true := by
  simp only [Admits]
  exact ⟨by decide +kernel, by decide +kernel, beq_self_eq_true (areaCheck _)⟩

/-- A counter cell written at reset's value does not pass, and the counter is 0; a step can be taken. -/
theorem witness_CounterNeverDecreases :
    CounterInv lane ∧ ∃ t, step (lane.setPending [.laneClockSecond]) = .next t :=
  ⟨by unfold CounterInv; decide +kernel, ⟨_, rfl⟩⟩

/-- The form of the worked example's record, and its entry. -/
theorem witness_CardForm :
    CardForm chars16 .stripe digits16 (some (text "2712"))
      ∧ EntryOf (cardLane .payment lane) digits16 (entry16 .payment) := by
  refine ⟨⟨by decide +kernel, by decide +kernel, by decide +kernel, ?_⟩, [], [], by decide +kernel, by simp,
    by unfold EntryHas; decide +kernel⟩
  intro e h
  cases h
  decide +kernel

/-- A bad LRC, a bad form, and whole records that fail each test. -/
theorem witness_RecordIsJudgedInOrder :
    ((cardLane .payment lane).power = .running ∧ (cardLane .payment lane).store.settings.cardEnable = true
      ∧ (cardLane .payment lane).card.assembler = .hunting ∧ chars16.length ≤ 48 ∧ ∀ b ∈ chars16, b ≠ 0x03#8)
      ∧ (0x00#8 ≠ xorOf (chars16 ++ [0x03#8]))
      ∧ ((∀ so d e, ¬ CardForm [] so d e) ∧ ∀ x ∈ lane.store.settings.ranges, ¬ EntryHas x digits16)
      ∧ luhnSum (text "4000123456789018") % 10 ≠ 0 ∧ luhnSum digits16 % 10 = 0
      ∧ expiredAt 795259800 (text "2502") = true ∧ expiredAt 795259800 (text "2503") = false := by
  refine ⟨by decide +kernel, by decide +kernel, ⟨?_, fun x h => by cases h⟩, by decide +kernel⟩
  intro so d e h
  exact absurd h.form (by simp)

/-- The worked example's record passes the tests of an entry of any class. -/
theorem passes16 (s : State) (c : CardClass) (hp : s.power = .running) (he : s.store.settings.cardEnable = true)
    (ha : s.card.assembler = .hunting) :
    PassesTests (cardLane c s) chars16 .stripe digits16 (some (text "2712")) (entry16 c) where
  running := hp
  port := he
  hunting := ha
  form := witness_CardForm.1
  entry := ⟨[], [], rfl, by simp, by unfold EntryHas; cases c <;> decide +kernel⟩
  length := by cases c <;> decide +kernel
  check := fun _ => by decide +kernel
  expiry := fun _ => ⟨_, rfl, fun now h => by
    simp only [cardLane, State.setJournal, Option.some.injEq] at h
    subst h
    decide +kernel⟩

/-- Each class without and with a ticket, the slot taken, a loyalty attached; each operator state for a cashier card. -/
theorem witness_CardsActByTheirClass :
    let signed (n : Nat) (s : State) := s.setStaff { s.staff with operator := some ⟨n, .card⟩ }
    (PassesTests (cardLane .payment lane) chars16 .stripe digits16 (some (text "2712")) (entry16 .payment)
        ∧ lane.ticket.current = none)
      ∧ (PassesTests (cardLane .gift (selling (opened []))) chars16 .stripe digits16 (some (text "2712"))
          (entry16 .gift) ∧ (selling (opened [])).card.slot = .empty)
      ∧ (withSlot (.read (held16 .gift) 9) (selling (opened []))).card.slot ≠ .empty
      ∧ (PassesTests (cardLane .loyalty (selling { opened [] with loyalty := some masked16 })) chars16 .stripe digits16
          (some (text "2712")) (entry16 .loyalty))
      ∧ (PassesTests (cardLane .cashier lane) chars16 .stripe digits16 (some (text "2712")) (entry16 .cashier)
        ∧ digitsValue (digits16.drop (digits16.length - 6)) = 789017 ∧ lane.staff.operator = none)
      ∧ (PassesTests (cardLane .cashier (signed 1042 lane)) chars16 .stripe digits16 (some (text "2712"))
        (entry16 .cashier))
      ∧ (PassesTests (cardLane .cashier (signed 789017 (selling (opened [])))) chars16 .stripe digits16
        (some (text "2712")) (entry16 .cashier))
      ∧ PassesTests (cardLane .supervisor (signed 789017 lane)) chars16 .stripe digits16 (some (text "2712"))
        (entry16 .supervisor) :=
  ⟨⟨passes16 _ _ rfl rfl rfl, rfl⟩, ⟨passes16 _ _ rfl rfl rfl, rfl⟩, by decide, passes16 _ _ rfl rfl rfl,
    ⟨passes16 _ _ rfl rfl rfl, by decide +kernel, rfl⟩, passes16 _ _ rfl rfl rfl, passes16 _ _ rfl rfl rfl,
    passes16 _ _ rfl rfl rfl⟩

/-- The 49th character; a tail in SKIPPING; each state of the assembler with its timer. -/
theorem witness_RecordsAreDroppedAndAnswered :
    let s (a : ReaderAssembler) := lane.setCard { lane.card with assembler := a, charTimer := some 50 }
    (lane.power = .running ∧ lane.store.settings.cardEnable = true ∧ lane.card.assembler = .hunting
        ∧ (List.replicate 49 0x31#8).length = 49 ∧ ∀ b ∈ List.replicate 49 0x31#8, b ≠ 0x03#8)
      ∧ ((s (.skipping false)).card.assembler = .skipping false ∧ ∀ b ∈ [0x31#8], b ≠ 0x03#8)
      ∧ (s (.body [])).card.charTimer ≠ none ∧ (s (.awaitLrc [])).card.charTimer ≠ none := by decide +kernel

theorem witness_SlotIsReadClearedAndExpires :
    (Admits lane .pay 1 ∧ lane.card.slot = .empty)
      ∧ Admits (withSlot (.presented (held16 .payment) 120) lane) .pay 255
      ∧ (withSlot (.presented (held16 .payment) 120) lane).card.slot = .presented (held16 .payment) 120
      ∧ (withSlot (.read (held16 .gift) 9) lane).card.slot = .read (held16 .gift) 9 := by
  simp only [Admits]; decide +kernel

theorem witness_OperatorSignsOnAndOff :
    (Admits lane .ticket 1 ∧ ¬ (999999 = 0 ∨ 999999 < 999999) ∧ 999999 < 1000000 ∧ lane.staff.operator = none)
      ∧ (selling (opened [])).staff.operator = some ⟨1042, .card⟩ ∧ (selling (opened [])).ticket.current ≠ none
      ∧ (withSettings lane fun g => { g with cardSignOn := true }).store.settings.cardSignOn = true
      ∧ ((granted lane).power = .running ∧ (granted lane).staff.grant ≠ none) := by simp only [Admits]; decide +kernel

/-- The bounds of codes and values; an entry out of range, overlapping, before, between and behind the others, and one too
many; a deletion that finds and one that does not. -/
theorem witness_TareAndRangeTablesAreEdited :
    let e (n : Nat) : RangeEntry := { entry16 .gift with low := n, high := n }
    let s := withSettings lane fun g => { g with ranges := [e 10, e 30] }
    (Admits lane .mgmt 1 ∧ lane.store.settings.tares[32 - 1]? = some none ∧ (locked lane).store.settings.settingsLock = true
        ∧ (saving lane).store.savingSettings ≠ none)
      ∧ (¬ (99999999 ≤ 99999998 : Prop) ∧ 6 + 4 < 16)
      ∧ (Admits s .mgmt 1 ∧ s.store.settings.settingsLock = false ∧ s.store.savingSettings = none
        ∧ ∀ x ∈ s.store.settings.ranges, x.low ≤ x.high)
      ∧ (s.store.settings.ranges = [e 10] ++ [e 30] ∧ (∀ x ∈ [e 10], x.low ≤ 20) ∧ ∀ x ∈ [e 30].head?, 20 < x.low)
      ∧ (s.store.settings.ranges = [] ++ [e 10, e 30] ∧ s.store.settings.ranges = [e 10, e 30] ++ [])
      ∧ 64 ≤ ((List.range 64).map e).length
      ∧ (s.store.settings.ranges = [e 10] ++ e 30 :: [] ∧ ∀ x ∈ [e 10], x.low ≠ 30)
      ∧ (∀ x ∈ s.store.settings.ranges, x.low ≠ 20) ∧ s.store.settings.ranges[1]? = some (e 30)
      ∧ s.store.settings.ranges.length ≤ 2 := by
  simp only [Admits]; decide +kernel

/-- A ticket, no operator, an authorization, an open drawer, and a lane that may open one; the bounds of the number; a check
that keeps the flag and one that changes it, and one out of range. -/
theorem witness_OpenTicketCreatesTicket :
    let signed := lane.setStaff ⟨some ⟨1042, .card⟩, none⟩
    (Admits lane .ticket 1 ∧ lane.staff.operator = none ∧ (selling (opened [])).ticket.current ≠ none)
      ∧ (Admits (signed.setTicket ⟨none, 999999⟩) .ticket 1 ∧ (signed.setTicket ⟨none, 999999⟩).ticket.next = 999999)
      ∧ (drawerIn .jammed signed).drawer.auth ≠ none
      ∧ (drawerIn .opened signed).store.settings.closedDrawer = true ∧ (drawerIn .opened signed).drawer.state ≠ .closed
      ∧ signed.drawer.auth = none ∧ signed.drawer.state = .closed
      ∧ ((0 = 0 ∨ 999999 < 0) ∧ (1000000 = 0 ∨ 999999 < 1000000) ∧ 1 ≤ 999999)
      ∧ (Admits (selling (opened [keyed 1])) .ticket 1 ∧ (opened [keyed 1]).phase ≠ .settled
        ∧ (selling (opened [keyed 1])).ticket.current = some (opened [keyed 1]) ∧ (settled []).phase = .settled
        ∧ (opened [keyed 1]).checkMatched = decide ((250 : Int) = (opened [keyed 1]).total)
        ∧ (opened [keyed 1]).checkMatched ≠ decide ((249 : Int) = (opened [keyed 1]).total)
        ∧ (-10000000000 : Int) < -9999999999) := by
  simp only [Admits]; decide +kernel

/-- No ticket, a settled one, a full one, one at the limit, and lines of the three kinds. -/
theorem witness_KeyedLinesAndTheTotal :
    let v : Line := ⟨3, 777, -250, false, .void 1⟩
    (Admits lane .ticket 1 ∧ lane.ticket.current = none)
      ∧ (Admits (selling (opened [keyed 1])) .ticket 1
        ∧ (selling (opened [keyed 1])).ticket.current = some (opened [keyed 1]))
      ∧ 99 ≤ (opened ((List.range 99).map keyed)).lines.length ∧ (settled []).phase ≠ .opened
      ∧ (9999999999 : Int) < { opened [] with total := 9999999000 }.total + 1000
      ∧ ¬ (9999999999 : Int) < { opened [] with total := 9999999000 }.total + 999
      ∧ ((opened [keyed 1, weighed 2, v]).lines = [keyed 1] ++ weighed 2 :: [v] ∧ (weighed 2).number = 2
        ∧ ∀ x ∈ [keyed 1], x.number ≠ 2)
      ∧ (opened [keyed 1, weighed 2, v]).lines = [keyed 1, weighed 2] ++ v :: []
      ∧ ((999999999 : Nat) < 1000000000 ∧ (99 : Nat) < 100) := by
  simp only [Admits]; decide +kernel

/-- Each check that refuses a void, a keyed target, and a weighed one without and with a grant. -/
theorem witness_VoidLineCancelsItsTarget :
    let k := opened [keyed 1, weighed 2]
    (Admits (selling k) .ticket 1 ∧ (selling k).ticket.current = some k ∧ k.phase = .opened ∧ k.lines.length < 99
        ∧ (-9999999999 ≤ k.total - (weighed 2).amount ∧ k.total - (weighed 2).amount ≤ 9999999999))
      ∧ (¬ (1 ≤ 0 ∧ 0 ≤ 99) ∧ ¬ (1 ≤ 100 ∧ 100 ≤ 99) ∧ (1 ≤ 99 ∧ 99 ≤ 99))
      ∧ (k.lines = [] ++ keyed 1 :: [weighed 2] ∧ ∀ x ∈ [] ++ [weighed 2], x.number ≠ 1)
      ∧ (k.lines = [keyed 1] ++ weighed 2 :: [] ∧ (weighed 2).voided = false ∧ (selling k).staff.grant = none)
      ∧ (Admits (granted (selling k)) .ticket 1 ∧ (granted (selling k)).staff.grant = some ⟨9001, 30⟩)
      ∧ (∀ x ∈ k.lines, x.number ≠ 3) ∧ { keyed 1 with voided := true }.voided = true
      ∧ 99 ≤ (opened ((List.range 99).map fun n => keyed (n + 1))).lines.length
      ∧ ¬ -9999999999 ≤ { opened [keyed 1] with total := -9999999999 }.total - (keyed 1).amount := by
  simp only [Admits]; decide +kernel

/-- Keyed lines alone, a weighed line without and with a grant, a CARD tender, a settled ticket. -/
theorem witness_AbandonEndsTheTicket :
    (Admits (selling (opened [keyed 1])) .ticket 1 ∧ NoPrinting (selling (opened [keyed 1]))
        ∧ (opened [keyed 1]).phase = .opened ∧ ∀ l ∈ (opened [keyed 1]).lines, isWeighed l = false)
      ∧ ((weighed 1) ∈ (opened [weighed 1]).lines ∧ (weighed 1).body = .weighed ⟨512, 512, 0, 623, .perKg, 1, 0⟩
        ∧ (selling (opened [weighed 1])).staff.grant = none)
      ∧ (Admits (granted (selling (opened [weighed 1]))) .ticket 1 ∧ NoPrinting (granted (selling (opened [weighed 1])))
        ∧ (granted (selling (opened [weighed 1]))).staff.grant = some ⟨9001, 30⟩)
      ∧ (⟨.card, 1, some [0x31#8], some masked16⟩ : Tender).kind = TenderKind.card
      ∧ (settled []).phase = .settled := by
  simp only [Admits, noPrinting_iff]; decide +kernel

/-- Each refusal of a tender; the rounded due of 1,003 in steps of 5 and the amounts beside it. -/
theorem witness_TendersAreCheckedInOrder :
    (Admits (selling (opened [keyed 1])) .ticket 1 ∧ (selling (opened [keyed 1])).ticket.current = some (opened [keyed 1])
        ∧ (∀ b ∈ [0x20#8], printable b = true) ∧ lane.ticket.current = none)
      ∧ (settled []).phase = .settled
      ∧ ((selling (opened [])).store.settings.totalCheck = true
        ∧ { opened [] with checkMatched := false }.checkMatched = false)
      ∧ { opened [] with total := -1 }.total < 0
      ∧ ((2 * 1003 + 5) / (2 * 5) * 5 = (1005 : Int) ∧ ((1003 : Int) < 1005 ∧ (1003 : Int) ≤ 1003)
        ∧ (1004 : Int) < 1005)
      ∧ 7 ≤ (List.replicate 7 paid250).length
      ∧ (selling (opened [keyed 1])).card.slot = .empty
      ∧ (withSlot (.presented (held16 .payment) 9) (selling (opened [keyed 1]))).card.slot
        = .presented (held16 .payment) 9
      ∧ (withSlot (.read (held16 .gift) 9) (selling (opened [keyed 1]))).card.slot = .read (held16 .gift) 9
      ∧ (held16 .gift).cardClass ≠ .payment := by
  simp only [Admits]; decide +kernel

/-- A job HELD on its TOTAL insert, a status read in progress. -/
def heldTotal (stall : Option Stall) : Job :=
  { streamJob 3 .held [.insert .total 0] with ticket := some 7, stall := stall }

/-- The sale with that job as the printing job. -/
def heldSale (stall : Option Stall) : State :=
  printingLane [heldTotal stall] [3] (fun p => { p with mode := .status, reading := some .other, stall := stall })
    (selling (opened [keyed 1]))

/-- A partial and a settling tender of each shape, each drawer state, and the held job. -/
theorem witness_AcceptedTenderPaysOrSettles :
    let s := withSlot (.read (held16 .payment) 9) (selling (opened [keyed 1]))
    (Admits s .ticket 1 ∧ s.ticket.current = some (opened [keyed 1]) ∧ (opened [keyed 1]).phase ≠ .settled
        ∧ (opened [keyed 1]).checkMatched = true ∧ 0 ≤ (opened [keyed 1]).total ∧ PrintQuiet s ∧ NoPrinting s
        ∧ s.card.slot = .read (held16 .payment) 9 ∧ (held16 .payment).cardClass = .payment
        ∧ (opened [keyed 1]).receiptWaived = false)
      ∧ ((249 : Int) < 250 ∧ (250 : Int) - 0 = 250)
      ∧ (s.drawer.state = .closed ∧ (drawerIn .opened s).drawer.state = .opened
        ∧ (drawerIn .disabled s).drawer.state = .disabled ∧ holdsAuth (drawerIn .disabled s).drawer.state = false)
      ∧ (Admits (heldSale none) .ticket 1 ∧ Printing (heldSale none) [] (heldTotal none) [] .held
        ∧ (heldTotal none).ticket = some (opened [keyed 1]).number
        ∧ segmentAt (heldTotal none) = some (.insert .total 0) ∧ (heldSale none).port.segment = none
        ∧ (heldSale none).port.current = none ∧ (heldSale none).port.stopping = false
        ∧ (heldSale none).port.mode = .status ∧ (heldSale none).port.reading ≠ none
        ∧ paid true (opened [keyed 1]).tenders = 0)
      ∧ Printing (heldSale (some .coverOpen)) [] (heldTotal (some .coverOpen)) [] .held
      ∧ ((heldTotal (some .coverOpen)).stall = some .coverOpen ∧ (heldSale (some .coverOpen)).port.stall = some .coverOpen
        ∧ (heldSale (some .coverOpen)).port.segment = none ∧ PrintQuiet (heldSale (some .coverOpen)))
      ∧ isFinal .total = true ∧ InsertText s (settled [keyed 1]) .total 0
        [spread 42 (ascii ['T', 'O', 'T', 'A', 'L']) (ascii ['2', '.', '5', '0'])] := by
  simp only [Admits, PrintQuiet, noPrinting_iff, printing_iff, jobIs_iff, InsertText]; decide +kernel

/-- Each answer of WAIVE RECEIPT and FORCE CLOSE, with and without a held authorization. -/
theorem witness_SettledTicketIsWaivedOrForced :
    let k := { settled [weighed 1] with authorizationRaised := true }
    (Admits (selling (settled [])) .ticket 1 ∧ PrintQuiet (selling (settled [])) ∧ NoPrinting (selling (settled []))
        ∧ (selling (settled [])).staff.grant = none ∧ JobsMet (selling (settled [])) 7
        ∧ DrawerMet (selling (settled [])) 7)
      ∧ ¬ DrawerMet (drawerIn .opened (selling (settled []))) 7
      ∧ { settled [] with receiptLatch := true }.receiptLatch = true ∧ (opened []).phase ≠ .settled
      ∧ (Admits (granted (drawerIn .jammed (selling k))) .ticket 1
        ∧ NoPrinting (granted (drawerIn .jammed (selling k)))
        ∧ (granted (drawerIn .jammed (selling k))).staff.grant = some ⟨9001, 30⟩
        ∧ (granted (drawerIn .jammed (selling k))).drawer.auth = some ⟨.cash, 7⟩
        ∧ (weighed 1).voided = false ∧ isWeighed (weighed 1) = true) := by
  simp only [Admits, PrintQuiet, noPrinting_iff, JobsMet, DrawerMet]; decide +kernel

/-- Total, ring, drawer and lamp invariants hold of a sale, and a step can be taken. -/
theorem witness_invariants_of_a_sale :
    let s := (drawerIn .jammed (selling (opened [keyed 1, weighed 2]))).setPending [.keyedLine 1 (some ⟨1, none, 5⟩)]
    (ticketHolds (opened [keyed 1, weighed 2]) ∧ s.ticket.current = some (opened [keyed 1, weighed 2]))
      ∧ DrawerInv s ∧ ScaleFaultInv s ∧ ∃ t, step s = .next t :=
  ⟨⟨by unfold ticketHolds; decide +kernel, rfl⟩, by unfold DrawerInv; decide +kernel,
    by unfold ScaleFaultInv; decide +kernel, ⟨_, rfl⟩⟩

/-- The ring of a part that has written one entry. -/
theorem witness_RingInvIsKept : RingInv lane ∧ ∃ t, step (lane.setPending [.signOn 1 (some 5)]) = .next t := by
  refine ⟨⟨by decide, by decide, by decide, by decide, ?_, ?_⟩, _, rfl⟩
  · intro older e h
    have h1 : older = [] := by
      have := congrArg List.length h
      simp [lane, State.reset] at this
      exact this
    subst h1
    cases h
    decide
  · intro i e e' h h'
    have := (List.getElem?_eq_some_iff.1 h').1
    simp [lane, State.reset] at this

/-- Each answer of NO_SALE and RETRY. -/
theorem witness_DrawerRequestsAreTaken :
    (Admits lane .drawer 1 ∧ lane.ticket.current = none ∧ lane.drawer.auth = none ∧ lane.staff.grant = none)
      ∧ (selling (opened [])).ticket.current ≠ none ∧ (drawerIn .jammed lane).drawer.auth ≠ none
      ∧ ((granted lane).staff.grant = some ⟨9001, 30⟩ ∧ (granted lane).drawer.state = .closed)
      ∧ (drawerIn .opened (granted lane)).drawer.state = .opened
      ∧ (drawerIn .disabled (granted lane)).drawer.state = .disabled
      ∧ (Admits (drawerIn .jammed (selling (settled []))) .drawer 1
        ∧ (drawerIn .jammed (selling (settled []))).drawer.state = .jammed)
      ∧ ∀ lamp ∈ [Lamp.lampA, .lampB], sourceActive lane (lampSource lane lamp) = false := by
  simp only [Admits]; decide +kernel

/-- Each event of the drawer in each state it acts in. -/
theorem witness_DrawerEventsAct :
    let s := selling (settled [])
    (lane.power = .running ∧ lane.pins.senseClosed = true)
      ∧ (∀ x ∈ [DrawerState.unlatching, .confirming, .jammed],
        (debouncing false true (drawerIn x s)).drawer.auth = some ⟨.cash, 7⟩
          ∧ (debouncing false true (drawerIn x s)).drawer.debounceTimer ≠ none
          ∧ (debouncing false true (drawerIn x s)).drawer.state = x)
      ∧ (debouncing false true s).drawer.state = .closed
      ∧ ((debouncing true false (drawerIn .opened s)).drawer.state = .opened
        ∧ (debouncing true false (drawerIn .opened s)).pins.senseClosed = true)
      ∧ (debouncing true false (drawerIn .disabled s)).drawer.state = .disabled
      ∧ ((drawerIn .unlatching s).drawer.pulseTimer ≠ none ∧ (drawerIn .confirming s).drawer.confirmTimer ≠ none
        ∧ (drawerIn .opened s).drawer.leftOpenTimer ≠ none)
      ∧ ((drawerIn .confirming s).store.settings.retries < (drawerIn .confirming s).drawer.attempts
        ∧ (1 : Nat) ≤ (drawerIn .confirming s).store.settings.retries)
      ∧ lampSource lane .lampA = .callFlash ∧ lane.lamps.reasons = []
      ∧ (lane.setLamps ⟨[.paperOut], false, false⟩).lamps.reasons ≠ [] := by decide +kernel

/-- A raster of seventeen blocks. -/
def raster17 : Segment := .raster 3 (List.replicate 200 [0x02#8, 0x00#8, 0x00#8, 0x00#8])

/-- A fragment that fits, one too long for a fragment, the lock, a save, and a read that shows one segment of two. -/
theorem witness_FragmentsAreWrittenClearedAndRead :
    let s := withSettings lane fun g => { g with fragments := [raster17, feed9] :: List.replicate 31 [] }
    (Admits s .mgmt 1 ∧ requestInRange (.fragmentWrite ⟨1, [raster17]⟩) = true
        ∧ s.store.settings.fragments = [] ++ [raster17, feed9] :: List.replicate 31 []
        ∧ s.store.settings.settingsLock = false ∧ s.store.savingSettings = none ∧ blocksOf [raster17] ≤ 32)
      ∧ (requestInRange (.fragmentWrite ⟨1, [raster17, raster17]⟩) = true ∧ 32 < blocksOf [raster17, raster17])
      ∧ ((locked s).store.settings.settingsLock = true ∧ (saving s).store.savingSettings ≠ none)
      ∧ [raster17, feed9].drop 0 = [raster17, feed9] ++ []
      ∧ [raster17, raster17].drop 0 = [raster17] ++ [raster17] ∧ ([raster17].map lengthOf).sum ≤ 1019
      ∧ 1019 < ([raster17].map lengthOf).sum + lengthOf raster17 := by
  simp only [Admits]; decide +kernel

/-- A full queue, a binding without its ticket, both kinds of job, a number taken, each state of the port. -/
theorem witness_JobOpenMakesAJob :
    let s := printingLane [streamJob 255 .loading [], streamJob 1 .waitingData []] [1] id (lane.setPrint Print.reset)
    let t := s.setPrint { s.print with next := 255 }
    (Admits lane .print 1 ∧ lane.print.jobs.length < 8 ∧ PrintQuiet lane ∧ lane.print.order = []
        ∧ lane.port.segment = none ∧ lane.port.current = none ∧ lane.port.stopping = false ∧ lane.port.stall = none)
      ∧ 8 ≤ ((List.range 8).map fun n => streamJob n .loading []).length
      ∧ (lane.ticket.current = none ∧ (selling (opened [])).ticket.current = some (opened [])
        ∧ (opened []).number = 7)
      ∧ (Admits t .print 1 ∧ PrintQuiet t ∧ jobNumberLater 2 t.print.next = 2
        ∧ (∀ x ∈ t.print.jobs, x.number ≠ 2) ∧ t.print.order.head? = some 1)
      ∧ (lane.setPort { lane.port with stopping := true }).port.stopping = true
      ∧ (lane.setPort { lane.port with stall := some .coverOpen }).port.stall = some .coverOpen
      ∧ PrintQuiet (lane.setPort { lane.port with stall := some .coverOpen }) := by
  simp only [Admits, PrintQuiet]; decide +kernel

/-- A segment's bytes as the port begins it: the FEED, and a raster with and without the block capability (for
SegmentIsAppended, SubmittedJobsStartAndEnd, PrinterBytesAreHandshaken and StatusReadsJudgeAndStall). -/
theorem witness_BeginsAs (capable : Bool) :
    BeginsAs 42 capable feed9 (.bytes [0x1C#8, 0x46#8, 0x09#8]) 0x1C#8 [0x46#8, 0x09#8] []
      ∧ BeginsAs 42 true (.raster 1 [[0x00#8, 0x07#8]]) (.raster 1 [[0x00#8, 0x07#8]]) 0x1C#8 [0x42#8, 0x01#8, 0x01#8]
        [⟨0x00#8, true⟩, ⟨0x07#8, false⟩]
      ∧ BeginsAs 42 false (.raster 1 [[0x00#8, 0x07#8]]) (.raster 1 [[0x00#8, 0x07#8]]) 0x1C#8 [0x52#8, 0x01#8, 0x07#8] [] :=
  ⟨⟨by decide, rfl, rfl⟩, ⟨rfl, fun _ => by decide, fun h => by cases h⟩,
    ⟨rfl, fun h => (by cases h), fun _ => by decide⟩⟩

/-- Inserts that render nothing, a line, nothing for want of a WEIGHED line, and nothing before settlement. -/
theorem witness_InsertText :
    InsertText lane (opened [keyed 1]) .loyalty 0 []
      ∧ InsertText lane (opened [keyed 1]) .operator 0 [text "OPERATOR 1042"]
      ∧ InsertText lane (opened [keyed 1, weighed 2]) .line 2
        (certifiedLines 42 2 (weighed 2) ⟨512, 512, 0, 623, .perKg, 1, 0⟩)
      ∧ InsertText lane (settled [keyed 1]) .total 0 [spread 42 (text "TOTAL") (text "2.50")]
      ∧ insertBytes 42 [text "OPERATOR 1042"] = 0x1C#8 :: ([0x53#8, 0x00#8] ++ text "OPERATOR 1042" ++ [0x0A#8])
      ∧ (∀ l ∈ (opened [keyed 1]).lines, l.number = 1 → ∀ p, l.body ≠ .weighed p)
      ∧ isFinal .total = true ∧ (opened [keyed 1]).phase ≠ .settled := by
  refine ⟨rfl, by change [_] = [_]; decide +kernel, ⟨[keyed 1], weighed 2, _, [], rfl, by decide, rfl, rfl, rfl⟩,
    ⟨rfl, by decide +kernel⟩, by decide +kernel, ?_, rfl, by decide⟩
  intro l h _ p hp
  cases List.mem_singleton.1 h
  cases hp

/-- A bound job that waits for data, on the open ticket. -/
theorem witness_BoundJobWaits :
    let w := { streamJob 3 .waitingData [feed9] with ticket := some 7, position := .own 1 }
    let s := (selling (opened [keyed 1])).setPrint ⟨[w], 9, [3]⟩
    Admits s .print 1 ∧ Printing s [] w [] .waitingData ∧ PortOpen s ∧ s.ticket.current = some (opened [keyed 1]) := by
  simp only [Admits, printing_iff, jobIs_iff, portOpen_iff]; decide +kernel

/-- No such job, one that takes nothing, a free INSERT, a full job, a waiting stream job without and with a stall. -/
theorem witness_SegmentIsAppended :
    let s (j : Job) := (lane.setPrint ⟨[j], 9, [3]⟩)
    let w := streamJob 3 .waitingData []
    let l := { streamJob 3 .loading [] with stream := false }
    let st := { w with stall := some Stall.portOff }
    (Admits (s w) .print 1 ∧ segmentInRange feed9 = true ∧ Printing (s w) [] w [] .waitingData ∧ PortOpen (s w)
        ∧ (s w).port.segment = none ∧ (s w).port.current = none ∧ (s w).port.discardPending = false
        ∧ (s w).pins.printerBusy = false ∧ w.position = .own w.segments.length
        ∧ compatBytes (s w).store.settings.printWidth feed9 = some [0x1C#8, 0x46#8, 0x09#8])
      ∧ (JobIs (s l) [] l [] ∧ l.state = .loading ∧ l.ticket = none ∧ segmentInRange (.insert .total 0) = true)
      ∧ PrintQuiet ((s l).setPrint ⟨[l], 9, []⟩)
      ∧ (JobIs (s (submitted w)) [] (submitted w) [] ∧ (submitted w).submitted = true)
      ∧ ¬ ({ w with segments := List.replicate 255 feed9 }.segments.length < 255)
      ∧ st.stall = some .portOff
      ∧ PrintQuiet ((s st).setPort { (s st).port with stall := some .portOff }) := by
  simp only [Admits, PrintQuiet, printing_iff, jobIs_iff, portOpen_iff]; decide +kernel

/-- The open ticket's lane with a job, fragment 1 a FEED and the other fragments empty. -/
def callLane (j : Job) (order : List Nat) : State :=
  (withSettings (selling (opened [keyed 1])) fun g => { g with
    fragments := [feed9] :: [] :: List.replicate 30 [] }).setPrint ⟨[j], 9, order⟩

/-- A CALL of a fragment that stands and of an empty one, for a job that waits, one that is loaded and one that is queued. -/
theorem witness_CallsAreReached :
    let w := streamJob 3 .waitingData []
    let l := { streamJob 3 .loading [.call 1] with stream := false }
    let q := { streamJob 3 .queued [.call 2, feed9] with stream := false }
    (Admits (callLane w [3]) .print 1 ∧ segmentInRange (.call 1) = true ∧ Printing (callLane w [3]) [] w [] .waitingData
        ∧ PortOpen (callLane w [3]) ∧ w.stack.length < 4)
      ∧ ((callLane w [3]).store.settings.fragments = [] ++ [feed9] :: [] :: List.replicate 30 []
        ∧ (callLane w [3]).store.settings.fragments = [[feed9]] ++ [] :: List.replicate 30 [])
      ∧ (Admits (callLane l []) .print 1 ∧ JobIs (callLane l []) [] l [] ∧ PrintQuiet (callLane l [])
        ∧ PortOpen (callLane l []) ∧ segmentAt l = some (.call 1) ∧ (callLane l []).pins.printerBusy = false)
      ∧ (Printing (callLane q [3]) [] q [] .queued ∧ PortOpen (callLane q [3]) ∧ segmentAt q = some (.call 2)
        ∧ segmentAt { q with position := nextPosition q.position } = some feed9) := by
  simp only [Admits, PrintQuiet, printing_iff, jobIs_iff, portOpen_iff]; decide +kernel

/-- An INSERT, for a loaded and for a queued bound job. -/
theorem witness_InsertsAreReached :
    let i := { streamJob 3 .loading [.insert .operator 0] with stream := false, ticket := some 7 }
    let p := { i with state := .queued }
    (JobIs (callLane i []) [] i [] ∧ PrintQuiet (callLane i []) ∧ segmentAt i = some (.insert .operator 0)
        ∧ (callLane i []).ticket.current = some (opened [keyed 1]))
      ∧ Printing (callLane p [3]) [] p [] .queued ∧ 0 + 1 = p.segments.length := by
  simp only [PrintQuiet, printing_iff, jobIs_iff]; decide +kernel

/-- Each way SUBMIT goes, and a QUEUED first job at a free port. -/
theorem witness_SubmittedJobsStartAndEnd :
    let l := { streamJob 3 .loading [] with stream := false }
    let w := streamJob 3 .waitingData []
    let q := streamJob 3 .queued []
    let s (j : Job) (order : List Nat) := lane.setPrint ⟨[j], 9, order⟩
    let stalled (x : State) := x.setPort { x.port with stall := some .headHot }
    (Admits (s l []) .print 1 ∧ JobIs (s l []) [] l [] ∧ PrintQuiet (s l []) ∧ (s l []).port.stall = none)
      ∧ (PrintQuiet (stalled (s l [])) ∧ (stalled (s l [])).port.stall = some .headHot)
      ∧ (JobIs (lane.setPrint ⟨[streamJob 2 .waitingData [], l], 9, [2]⟩) [streamJob 2 .waitingData []] l []
        ∧ PrintQuiet (lane.setPrint ⟨[streamJob 2 .waitingData [], l], 9, [2]⟩))
      ∧ (JobIs (s w [3]) [] w [] ∧ PrintQuiet (s w [3]) ∧ (s w [3]).print.order = [3])
      ∧ (submitted w).submitted = true
      ∧ (lane.power = .running ∧ lane.print.order = [])
      ∧ (Printing (s q [3]) [] q [] .queued ∧ (s q [3]).port.mode ≠ .block ∧ (s q [3]).port.due = none)
      ∧ Printing (s (submitted q) [3]) [] (submitted q) [] .queued
      ∧ (submitted q).reply = some ⟨0, .print, 3, 1, none⟩ ∧ Printing (s w [3]) [] w [] .waitingData := by
  simp only [Admits, PrintQuiet, printing_iff, jobIs_iff]; decide +kernel

/-- A loaded job with a segment, and a queued one, at an open port. -/
theorem witness_JobsStartWithASegment :
    let l := { streamJob 3 .loading [feed9] with stream := false }
    let q := streamJob 3 .queued [feed9]
    let s (j : Job) (order : List Nat) := lane.setPrint ⟨[j], 9, order⟩
    (Admits (s l []) .print 1 ∧ JobIs (s l []) [] l [] ∧ PrintQuiet (s l []) ∧ PortOpen (s l [])
        ∧ segmentAt l = some feed9 ∧ (s l []).pins.printerBusy = false)
      ∧ PortOpen (s q [3]) ∧ Printing (s q [3]) [] q [] .queued ∧ segmentAt q = some feed9 := by
  simp only [Admits, PrintQuiet, printing_iff, jobIs_iff, portOpen_iff]; decide +kernel

/-- A queued job, one in transfer, one stalled with its segment at the port, each with and without a SUBMIT. -/
theorem witness_CancelEndsTheJob :
    let l := { streamJob 3 .loading [] with stream := false }
    let w := submitted (streamJob 3 .waitingData [])
    let x : Transfer := ⟨.bytes [0x1C#8, 0x46#8, 0x09#8], false, [], [], true, 0⟩
    let st := { streamJob 3 .stalled [feed9] with stall := some Stall.headHot }
    let stopped := printingLane [st] [3] (fun p => { p with stall := some .headHot, segment := some x }) lane
    (Admits (lane.setPrint ⟨[l], 9, []⟩) .print 1 ∧ JobIs (lane.setPrint ⟨[l], 9, []⟩) [] l []
        ∧ PrintQuiet (lane.setPrint ⟨[l], 9, []⟩) ∧ l.reply = none)
      ∧ (JobIs (lane.setPrint ⟨[w], 9, [3]⟩) [] w [] ∧ PrintQuiet (lane.setPrint ⟨[w], 9, [3]⟩)
        ∧ w.reply = some ⟨0, .print, 3, 1, none⟩)
      ∧ (JobIs midFeed [] (streamJob 3 .printing [feed9]) [] ∧ (∀ m ∈ midFeed.print.order, m = 3)
        ∧ midFeed.port.mode = .compat ∧ midFeed.port.current = some ⟨⟨0x1C#8, false⟩, .segment, true⟩)
      ∧ JobIs stopped [] st [] ∧ PrintQuiet stopped ∧ stopped.port.mode ≠ .block ∧ stopped.port.stall ≠ none
      ∧ stopped.port.segment = some x := by
  simp only [Admits, PrintQuiet, jobIs_iff]; decide +kernel

/-- The raster job's port in BLOCK with these bytes in the FIFO, these not loaded, and this byte current. -/
def inBlock (fifo coded : List PortByte) (current : Option CurrentByte) : State :=
  printingLane [streamJob 3 .printing [.raster 1 [[0x00#8, 0x07#8]]]] [3] (fun p => { p with
    mode := .block
    fifo := fifo
    segment := some ⟨.raster 1 [[0x00#8, 0x07#8]], true, [], coded, true, 0⟩
    current := current
    busyTimer := some 5000 }) lane

/-- The byte of the raster row. -/
def rowByte : PortByte := ⟨0x07#8, false⟩

/-- A job in PRINTING with a byte ready that BUSY holds back, its own or a pending discard, without and with a read due; one
during a status read; one in BLOCK with its FIFO draining. -/
theorem witness_CancelStopsThePort :
    let j := streamJob 3 .printing [feed9]
    let ready (source : ByteSource) (due : Option ReadCause) := midFeed.setPort { midFeed.port with
      current := some ⟨⟨0x46#8, false⟩, source, false⟩, due := due }
    let reading := printingLane [j] [3] (fun p => { p with mode := .status, reading := some .other }) lane
    let block := inBlock [rowByte, rowByte] [rowByte] (some ⟨rowByte, .fifo, true⟩)
    (∀ source ∈ [ByteSource.discard, .segment], ∀ due ∈ [none, some ReadCause.other],
        JobIs (ready source due) [] j [] ∧ Admits (ready source due) .print 1 ∧ (∀ m ∈ (ready source due).print.order, m = 3)
          ∧ (ready source due).port.mode = .compat ∧ (ready source due).port.stall = none
          ∧ (ready source due).port.reading = none ∧ (ready source due).store.settings.printerEnable = true
          ∧ (ready source due).pins.printerBusy = true ∧ (ready source due).port.due = due)
      ∧ (JobIs reading [] j [] ∧ reading.port.mode = .status ∧ reading.port.reading ≠ none ∧ reading.port.current = none)
      ∧ block.print.order = [3] ∧ block.port.mode = .block ∧ block.port.current = some ⟨rowByte, .fifo, true⟩ := by
  simp only [Admits, jobIs_iff]; decide +kernel

/-- A byte in the middle and at the end of a segment, the discard, a ready byte, a full FIFO, its last byte, its end. -/
theorem witness_PrinterBytesAreHandshaken :
    let lastFeed (j : Job) := printingLane [j] [3] (transferring [] 0x09#8) lane
    let j := streamJob 3 .printing [feed9]
    let discard := printingLane [] [] (fun p => { p with
      current := some ⟨⟨0x18#8, false⟩, .discard, true⟩, discardPending := true, stopping := true }) lane
    let ready := midFeed.setPort { midFeed.port with current := some ⟨⟨0x46#8, false⟩, .segment, false⟩ }
    (lane.power = .running ∧ lane.port.current = none)
      ∧ (PortOpen midFeed ∧ midFeed.pins.printerBusy = true ∧ midFeed.port.discardPending = false
        ∧ midFeed.port.current = some ⟨⟨0x1C#8, false⟩, .segment, true⟩
        ∧ midFeed.port.segment = some ⟨.bytes [0x1C#8, 0x46#8, 0x09#8], true, [0x46#8, 0x09#8], [], true, 0⟩)
      ∧ (PortOpen (lastFeed j) ∧ Printing (lastFeed j) [] j [] .printing ∧ j.position = .own 0 ∧ j.stack = []
        ∧ 0 + 1 = j.segments.length)
      ∧ (PortOpen (lastFeed (submitted j)) ∧ Printing (lastFeed (submitted j)) [] (submitted j) [] .printing
        ∧ (lastFeed (submitted j)).print.order = [3])
      ∧ (discard.port.mode = .compat ∧ discard.port.due = none ∧ discard.port.segment = none)
      ∧ PrintQuiet midFeed ∧ (PrintQuiet ready ∧ ready.pins.printerBusy = true)
      ∧ ((inBlock (List.replicate 64 rowByte) [rowByte, rowByte] (some ⟨rowByte, .fifo, true⟩)).port.fifo
          = rowByte :: rowByte :: List.replicate 62 rowByte
        ∧ (inBlock (List.replicate 64 rowByte) [rowByte, rowByte] (some ⟨rowByte, .fifo, true⟩)).port.mode = .block)
      ∧ (inBlock [rowByte] [] (some ⟨rowByte, .fifo, true⟩)).port.fifo = [rowByte]
      ∧ Printing (inBlock [] [] none) [] (streamJob 3 .printing [.raster 1 [[0x00#8, 0x07#8]]]) [] .printing
      ∧ (inBlock [] [] none).port.due = none ∧ (inBlock [] [] none).port.current = none := by
  simp only [PrintQuiet, printing_iff, jobIs_iff, portOpen_iff]; decide +kernel

/-- The next segment, a CALL to an empty fragment, to one that stands, the fifth one, a fragment's end, each discard, and the
end of a raster-start command. -/
theorem witness_PositionsCallsAndDiscards :
    let lastFeed (j : Job) := printingLane [j] [3] (transferring [] 0x09#8) lane
    let calls := streamJob 3 .printing [feed9, .call 5]
    let full := { submitted calls with stack := [.own 2, .own 2, .own 2, .own 2] }
    let inside (back : Nat) := { streamJob 3 .printing [.call 1, feed9] with
      position := .fragment 1 0 [feed9], stack := [.own back] }
    let held (source : ByteSource) (stopping : Bool) := printingLane [] [] (fun p => { p with
      current := some ⟨⟨0x18#8, false⟩, source, true⟩, discardPending := true, stopping := stopping }) lane
    let starts := printingLane [streamJob 3 .printing [.raster 1 [[0x00#8, 0x07#8]]]] [3] (fun p => { p with
      segment := some ⟨.raster 1 [[0x00#8, 0x07#8]], true, [], [rowByte], true, 3⟩
      current := some ⟨⟨0x01#8, false⟩, .segment, true⟩ }) lane
    let draining := inBlock [rowByte] [] (some ⟨rowByte, .fifo, true⟩)
    (PortOpen (lastFeed (streamJob 3 .printing [feed9, feed9]))
        ∧ Printing (lastFeed (streamJob 3 .printing [feed9, feed9])) [] (streamJob 3 .printing [feed9, feed9]) [] .printing
        ∧ segmentAt { streamJob 3 .printing [feed9, feed9] with position := .own 1 } = some feed9)
      ∧ (Printing (lastFeed calls) [] calls [] .printing
        ∧ segmentAt { calls with position := nextPosition calls.position } = some (.call 5)
        ∧ (lastFeed calls).store.settings.fragments = List.replicate 4 [] ++ [] :: List.replicate 27 []
        ∧ (withSettings (lastFeed calls) fun g => { g with
          fragments := List.replicate 4 [] ++ [feed9] :: List.replicate 27 [] }).store.settings.fragments
          = List.replicate 4 [] ++ [feed9] :: List.replicate 27 [] ∧ calls.stack.length < 4)
      ∧ (Printing (lastFeed full) [] full [] .printing ∧ 4 ≤ full.stack.length ∧ (lastFeed full).print.order = [3])
      ∧ (Printing (lastFeed (inside 2)) [] (inside 2) [] .printing ∧ (inside 2).segments.length = 2
        ∧ segmentAt { inside 1 with position := .own 1 } = some feed9 ∧ 0 + 1 = [feed9].length)
      ∧ (∀ x ∈ [ByteSource.discard, .stop, .segment], (held x true).port.current = some ⟨⟨0x18#8, false⟩, x, true⟩
        ∧ (held x true).port.stopping = true ∧ (held x true).port.mode = .compat ∧ (held x true).port.segment = none)
      ∧ (held .discard false).port.stopping = false
      ∧ (PortOpen starts ∧ starts.port.fifo = [] ∧ starts.port.discardPending = false)
      ∧ (draining.setPrint ⟨[], 9, []⟩).port.fifo = [rowByte] ∧ draining.port.stall = none := by
  simp only [printing_iff, jobIs_iff, portOpen_iff]; decide +kernel

/-- No read due; one due; a read in progress with no job, and with the printing job in each state it acts on. -/
theorem witness_StatusReadsJudgeAndStall :
    let reading (j : Job) := printingLane [j] [3] (fun p => { p with mode := .status, reading := some .other }) lane
    let cut := submitted (streamJob 3 .printing [.cut .fullCut])
    (lane.power = .running ∧ lane.port.due = none)
      ∧ ((lane.setPort { lane.port with due := some .other }).port.due = some .other
        ∧ lane.store.settings.printerEnable = true ∧ lane.port.reading = none ∧ lane.port.mode = .compat
        ∧ lane.port.current = none ∧ lane.print.order = [])
      ∧ (State.reset.port.reading = some .other ∧ State.reset.port.due = none ∧ State.reset.port.current = none
        ∧ State.reset.port.segment = none ∧ State.reset.port.stopping = false ∧ State.reset.print.order = []
        ∧ State.reset.port.busyTimer ≠ none)
      ∧ (∀ x ∈ [JobState.printing, .stalled, .waitingData, .held],
        Printing (reading (streamJob 3 x [feed9])) [] (streamJob 3 x [feed9]) [] x)
      ∧ ((reading cut).port.stall ≠ stallOf 0x10#8 false false ∧ segmentAt cut = some (.cut .fullCut)
        ∧ Printing (reading cut) [] cut [] .printing ∧ stallOf 0x10#8 false false = some .printerFault)
      ∧ (stallOf 0x20#8 true false = none ∧ stallOf 0x20#8 true true = some .notResponding)
      ∧ ((State.reset.setPort { State.reset.port with stopping := true }).port.stopping = true
        ∧ stallOf 0x01#8 false false ≠ none)
      ∧ ((reading (streamJob 3 .stalled [feed9])).port.segment = none
        ∧ segmentAt (streamJob 3 .stalled [feed9]) = some feed9 ∧ stallOf 0x20#8 false false = none
        ∧ (reading { streamJob 3 .printing [feed9] with restart := true }).port.stall = none
        ∧ Printing (reading { streamJob 3 .printing [feed9] with restart := true }) []
          { streamJob 3 .printing [feed9] with restart := true } [] .printing
        ∧ ((reading (streamJob 3 .stalled [feed9])).setPort
          { (reading (streamJob 3 .stalled [feed9])).port with stall := some .coverOpen }).port.stall ≠ none)
      ∧ (segmentAt (streamJob 3 .printing [.insert .allWeighed 0, .insert .total 0]) = some (.insert .allWeighed 0)
        ∧ segmentAt { streamJob 3 .printing [.insert .allWeighed 0, .insert .total 0] with position := .own 1 }
          = some (.insert .total 0)
        ∧ isFinal .total = true ∧ (opened []).phase ≠ .settled) := by
  simp only [printing_iff, jobIs_iff]; decide +kernel

/-- An offered byte in COMPAT and in BLOCK, one not offered, a stop, and an idle port. -/
theorem witness_TransfersAreInterrupted :
    let unoffered := midFeed.setPort { midFeed.port with
      segment := some ⟨.bytes [0x1C#8], true, [], [], false, 0⟩, current := some ⟨⟨0x1C#8, false⟩, .segment, false⟩ }
    let stop := lane.setPort { lane.port with
      current := some ⟨⟨0x1C#8, false⟩, .segment, true⟩, stopping := true, busyTimer := some 5000 }
    (midFeed.power = .running ∧ midFeed.port.busyTimer ≠ none ∧ midFeed.pins.printerFault = false
        ∧ midFeed.pins.printerPaperOut = false ∧ midFeed.store.settings.printerEnable = true
        ∧ midFeed.port.reading = none ∧ midFeed.port.due = none ∧ midFeed.port.mode ≠ .status
        ∧ midFeed.port.stopping = false
        ∧ Printing midFeed [] (streamJob 3 .printing [feed9]) [] .printing)
      ∧ ((inBlock [rowByte] [] (some ⟨rowByte, .fifo, true⟩)).port.mode ≠ .status
        ∧ (inBlock [rowByte] [] (some ⟨rowByte, .fifo, true⟩)).port.due = none)
      ∧ (unoffered.port.mode = .compat ∧ unoffered.port.stopping = false)
      ∧ (stop.port.mode = .compat ∧ stop.port.segment = none ∧ stop.print.order = [] ∧ stop.port.stopping = true
        ∧ stop.port.busyTimer ≠ none)
      ∧ lane.port.mode = .compat ∧ lane.port.segment = none ∧ lane.print.order = []
      ∧ lane.port.stopping = false := by
  simp only [printing_iff, jobIs_iff]; decide +kernel

/-- A held level, a disabled port, a change behind a byte, a change at rest, one during a read; the poll timer in both. -/
theorem witness_FurtherReadsAreHeld :
    let off := withSettings lane fun g => { g with printerEnable := false }
    let behind := midFeed.setPins { midFeed.pins with printerPaperOut := true }
    let polling := lane.setPort { lane.port with pollTimer := some 2000 }
    let readPolling := State.reset.setPort { State.reset.port with pollTimer := some 2000 }
    (lane.power = .running ∧ lane.pins.printerFault = false ∧ lane.port.pollTimer = none
        ∧ lane.port.busyTimer = none)
      ∧ (off.store.settings.printerEnable = false ∧ off.pins.printerFault ≠ true)
      ∧ (behind.pins.printerPaperOut ≠ false ∧ behind.store.settings.printerEnable = true ∧ behind.port.reading = none
        ∧ behind.port.current ≠ none ∧ PrintQuiet behind)
      ∧ ((lane.setPins { lane.pins with printerFault := true }).pins.printerFault ≠ false ∧ lane.port.due = none
        ∧ lane.port.current = none ∧ lane.port.mode = .compat ∧ lane.print.order = [])
      ∧ (State.reset.pins.printerPaperOut ≠ true ∧ State.reset.port.reading ≠ none ∧ State.reset.port.current = none
        ∧ State.reset.port.segment = none ∧ State.reset.port.mode = .status ∧ State.reset.print.order = [])
      ∧ (polling.port.pollTimer ≠ none ∧ polling.port.mode = .compat ∧ polling.port.reading = none)
      ∧ readPolling.port.pollTimer ≠ none ∧ readPolling.port.mode = .status ∧ readPolling.port.reading ≠ none := by
  simp only [PrintQuiet]; decide +kernel

end Sys2Proof.Tests
end

section
/-! What the line requests of the Ticket Unit do (R103, R104, R106, R107): the answers that change no unit, the append of a
line, and the two statements about them. -/

namespace Sys2Proof.Machine

/-! ## Answers that change no unit -/

@[simp] theorem afterAdmission_ticket (s : State) (who : Admitted) : (afterAdmission s who).ticket = s.ticket := rfl

@[simp] theorem afterAdmission_staff (s : State) (who : Admitted) : (afterAdmission s who).staff = s.staff := rfl

theorem Keeps_afterAdmission (changed : List Part) (s : State) (who : Admitted) :
    Keeps changed s (afterAdmission s who) :=
  Keeps_of_Agree (Keeps_refl changed s) (Agree_afterAdmission s who)

/-- A well-formed request whose unit only answers it completes with every unit as it was. -/
theorem completes_unchanged {c : Instr} {s : State} {ch : Channel} {kind tag : Nat} {r : Request} {result : Result}
    {reason : Reason} {fields : List Byte}
    (hc : exec c s = .next (moment (requestArrives ch kind tag (some r)) s)) (ha : Admits s ch tag)
    (hr : requestInRange r = true)
    (ht : takeWellFormed r (asker s ch kind tag (weighEcho r)) (afterAdmission s (asker s ch kind tag (weighEcho r)))
      = respond (asker s ch kind tag (weighEcho r)) result reason fields
          (afterAdmission s (asker s ch kind tag (weighEcho r)))) :
    Completes c s (asker s ch kind tag (weighEcho r)) (responsePayload result reason fields) none [] fun _ => True :=
  completes_of hc ha hr ht (LinkSame_refl _) (Keeps_afterAdmission _ _ _) fun _ _ => trivial

/-- Off SCALE a request with a field out of range is answered BAD_FIELD at once (R11, R13). -/
theorem requestArrives_outOfRange {s : State} {ch : Channel} {kind tag : Nat} {r : Request} (ha : Admits s ch tag)
    (hch : ch ≠ .scale) (hr : ¬ requestInRange r = true) :
    requestArrives ch kind tag (some r) s
      = respond (asker s ch kind tag (weighEcho r)) .badField .none []
          (afterAdmission s (asker s ch kind tag (weighEcho r))) := by
  unfold requestArrives payloadArrives
  rw [admit_taken ha]
  simp [takeRequest, wellFormedRequest, hr, hch, malformed]

/-- The moment of a request that is admitted and answered changes no unit. -/
theorem answers_settle_respond (s : State) (who : Admitted) (result : Result) (reason : Reason) (fields : List Byte) :
    let t := settle s (respond who result reason fields (afterAdmission s who))
    Answers s t who (responsePayload result reason fields) none ∧ LinkKept s t ∧ Agree s t := by
  intro t
  obtain ⟨admittedKept, admittedList, admittedOut, admittedOthers⟩ := afterAdmission_link s who
  obtain ⟨answeredKept, answeredList, answeredOut, answeredOthers⟩ :=
    respondWith_link who result reason fields none (afterAdmission s who)
  obtain ⟨agree, kept, mail⟩ := settle_spec s (respond who result reason fields (afterAdmission s who))
  refine ⟨⟨?_, ?_, fun ch hne => ?_⟩, ?_, ?_⟩
  · exact (mail who.channel).1.trans (answeredList.trans admittedList)
  · rw [(mail who.channel).2, ← admittedOut]
    exact answeredOut
  · exact MailSame_trans (admittedOthers ch hne) (MailSame_trans (answeredOthers ch hne) (mail ch))
  · exact LinkKept_trans admittedKept (LinkKept_trans answeredKept kept)
  · exact Agree_trans (Agree_afterAdmission s who) (Agree_trans (Agree_respondWith _ _ _ _ _ _) agree)

/-- Off SCALE a request with a field out of range completes with BAD_FIELD and every unit as it was (R13). -/
theorem completes_badField {c : Instr} {s : State} {ch : Channel} {kind tag : Nat} {r : Request}
    (hc : exec c s = .next (moment (requestArrives ch kind tag (some r)) s)) (ha : Admits s ch tag)
    (hch : ch ≠ .scale) (hr : ¬ requestInRange r = true) :
    Completes c s (asker s ch kind tag (weighEcho r)) (responsePayload .badField .none []) none [] fun _ => True := by
  obtain ⟨answered, kept, agree⟩ :=
    answers_settle_respond s (asker s ch kind tag (weighEcho r)) .badField .none []
  refine ⟨_, ?_, answered, kept, Keeps_of_Agree (Keeps_refl [] s) agree, trivial⟩
  rw [hc, moment_running ha.1, requestArrives_outOfRange ha hch hr]

/-! ## Ranges of the line requests -/

theorem keyedLine_inRange_iff (f : KeyedFields) :
    requestInRange (.keyedLine f) = true ↔ f.item ≤ 999999999 ∧ (∀ q, f.quantity = some q → 1 ≤ q ∧ q ≤ 9999)
      ∧ -999999999 ≤ f.amount ∧ f.amount ≤ 999999999 := by
  cases hq : f.quantity <;> simp [requestInRange, within, withinInt, hq, and_assoc]

theorem voidLine_inRange_iff (n : Nat) : requestInRange (.voidLine n) = true ↔ 1 ≤ n ∧ n ≤ 99 := by
  simp [requestInRange, within]

theorem readLine_inRange_iff (n : Nat) : requestInRange (.readLine n) = true ↔ 1 ≤ n ∧ n ≤ 99 := by
  simp [requestInRange, within]

/-! ## When an append is refused (R103) -/

theorem totalInLimit_iff (z : Int) : totalInLimit z = true ↔ -9999999999 ≤ z ∧ z ≤ 9999999999 := by
  rw [totalInLimit, Bool.and_eq_true, decide_eq_true_iff, decide_eq_true_iff, Config.maxTotal]

section Append

variable {k : Ticket} {amount : Int}

theorem appendRefusal_of_not_opened (ho : k.phase ≠ .opened) : appendRefusal k amount = some .ticketState := by
  simp [appendRefusal, ho]

theorem appendRefusal_of_full (ho : k.phase = .opened) (hl : 99 ≤ k.lines.length) :
    appendRefusal k amount = some .full := by
  simp [appendRefusal, ho, Config.maxLines, hl]

theorem appendRefusal_of_beyond (ho : k.phase = .opened) (hl : k.lines.length < 99)
    (hz : ¬ (-9999999999 ≤ k.total + amount ∧ k.total + amount ≤ 9999999999)) :
    appendRefusal k amount = some .limit := by
  have hm : ¬ totalInLimit (k.total + amount) = true := mt (totalInLimit_iff _).1 hz
  simp [appendRefusal, ho, Config.maxLines, hl, hm]

theorem appendRefusal_of_fits (ho : k.phase = .opened) (hl : k.lines.length < 99)
    (hz : -9999999999 ≤ k.total + amount ∧ k.total + amount ≤ 9999999999) : appendRefusal k amount = none := by
  have hm : totalInLimit (k.total + amount) = true := (totalInLimit_iff _).2 hz
  simp [appendRefusal, ho, Config.maxLines, hl, hm]

end Append

/-! ## The line with a number -/

theorem lineNumbered_eq_none {k : Ticket} {n : Nat} (h : ∀ x ∈ k.lines, x.number ≠ n) : lineNumbered k n = none := by
  simpa [lineNumbered] using h

theorem lineNumbered_eq_some {k : Ticket} {n : Nat} {before after : List Line} {l : Line}
    (hk : k.lines = before ++ l :: after) (hl : l.number = n) (hb : ∀ x ∈ before, x.number ≠ n) :
    lineNumbered k n = some l :=
  List.find?_eq_some_iff_append.2 ⟨by simp [hl], before, after, hk, by simpa using hb⟩

/-- Marking a line that no other line shares the number of changes that line alone (R106). -/
theorem markVoided_lines {k : Ticket} {before after : List Line} {l : Line}
    (hk : k.lines = before ++ l :: after) (hu : ∀ x ∈ before ++ after, x.number ≠ l.number) :
    (markVoided k l.number).lines = before ++ { l with voided := true } :: after := by
  have others : ∀ xs : List Line, (∀ x ∈ xs, x.number ≠ l.number) →
      xs.map (fun x => if x.number = l.number then { x with voided := true } else x) = xs := fun xs hx =>
    (List.map_congr_left fun x hm => if_neg (hx x hm)).trans (List.map_id' xs)
  obtain ⟨hb, ha⟩ := List.forall_mem_append.1 hu
  simp [markVoided, hk, others before hb, others after ha]

@[simp] theorem markVoided_length (k : Ticket) (n : Nat) : (markVoided k n).lines.length = k.lines.length := by
  simp [markVoided]

/-- The ticket after an accepted VOID LINE, its target's number borne by no other line (R106). -/
theorem voidTarget_eq {k : Ticket} {before after : List Line} {l : Line}
    (hk : k.lines = before ++ l :: after) (hu : ∀ x ∈ before ++ after, x.number ≠ l.number) :
    voidTarget k l = { k with
      lines := before ++ { l with voided := true } :: after
        ++ [⟨k.lines.length + 1, l.item, -l.amount, false, .void l.number⟩]
      total := k.total - l.amount
      checkMatched := false } := by
  unfold voidTarget appendLine
  rw [markVoided_length, markVoided_lines hk hu]
  rfl

/-! ## Kinds of lines -/

theorem isWeighed_iff (l : Line) : isWeighed l = true ↔ ∃ p, l.body = .weighed p := by
  cases h : l.body <;> simp [isWeighed, h]

theorem isVoidLine_iff (l : Line) : isVoidLine l = true ↔ ∃ m, l.body = .void m := by
  cases h : l.body <;> simp [isVoidLine, h]

/-- A line can be voided if it is not voided and not of kind VOID (R106). -/
theorem voidable_iff (l : Line) :
    (l.voided || isVoidLine l) = false ↔ l.voided = false ∧ ∀ m, l.body ≠ .void m := by
  rw [Bool.or_eq_false_iff, ← Bool.not_eq_true (isVoidLine l), isVoidLine_iff, not_exists]

section WriteLine

variable {l : Line}

theorem writeLine_weighed {p : WeightPart} (h : l.body = .weighed p) :
    writeLine l = u8 l.number ++ (u8 0 ++ u32 l.item ++ u8 0 ++ i32 l.amount ++ flag l.voided ++ u8 1 ++ i32 p.net
      ++ i32 p.gross ++ u32 p.tare ++ u32 p.price ++ u8 (priceBaseCode p.base) ++ u16 p.record ++ u32 p.calCount
      ++ u8 0) := by
  simp [writeLine, h, lineKindCode, lineQuantity, linePart, lineTarget, optional, writePart]

theorem writeLine_keyed {q : Option Nat} (h : l.body = .keyed q) :
    writeLine l = u8 l.number ++ (u8 1 ++ u32 l.item ++ optional u16 q ++ i32 l.amount ++ flag l.voided ++ u8 0
      ++ u8 0) := by
  simp [writeLine, h, lineKindCode, lineQuantity, linePart, lineTarget, optional]

theorem writeLine_void {m : Nat} (h : l.body = .void m) :
    writeLine l = u8 l.number ++ (u8 2 ++ u32 l.item ++ u8 0 ++ i32 l.amount ++ flag l.voided ++ u8 0 ++ u8 1
      ++ u8 m) := by
  simp [writeLine, h, lineKindCode, lineQuantity, linePart, lineTarget, optional]

end WriteLine

/-! ## The line requests arrive on TICKET -/

theorem exec_keyedLine (s : State) (tag : Nat) (f : KeyedFields) :
    exec (.keyedLine tag (some f)) s = .next (moment (requestArrives .ticket 3 tag (some (.keyedLine f))) s) := rfl

theorem exec_voidLine (s : State) (tag n : Nat) :
    exec (.voidLine tag (some n)) s = .next (moment (requestArrives .ticket 4 tag (some (.voidLine n))) s) := rfl

theorem exec_readLine (s : State) (tag n : Nat) :
    exec (.readLine tag (some n)) s = .next (moment (requestArrives .ticket 5 tag (some (.readLine n))) s) := rfl

/-! ## Taking the line requests -/

section Take

variable {s : State} {k : Ticket} {l : Line} {n : Nat} {f : KeyedFields} (who : Admitted)

theorem takeKeyedLine_idle (hc : s.ticket.current = none) :
    takeKeyedLine f who s = respond who .rejected .ticketState [] s := by
  simp [takeKeyedLine, hc]

theorem takeKeyedLine_refused {why : AppendRefusal} (hc : s.ticket.current = some k)
    (hw : appendRefusal k f.amount = some why) :
    takeKeyedLine f who s = respond who (appendResult why).1 (appendResult why).2 [] s := by
  simp [takeKeyedLine, hc, hw]

theorem takeKeyedLine_accepted (hc : s.ticket.current = some k) (hw : appendRefusal k f.amount = none) :
    takeKeyedLine f who s = answerAppend who (appendLine k f.item f.amount (.keyed f.quantity)) s := by
  simp [takeKeyedLine, hc, hw]

theorem takeReadLine_idle (hc : s.ticket.current = none) :
    takeReadLine n who s = respond who .rejected .ticketState [] s := by
  simp [takeReadLine, hc]

theorem takeReadLine_notFound (hc : s.ticket.current = some k) (hl : lineNumbered k n = none) :
    takeReadLine n who s = respond who .notFound .none [] s := by
  simp [takeReadLine, hc, hl]

theorem takeReadLine_found (hc : s.ticket.current = some k) (hl : lineNumbered k n = some l) :
    takeReadLine n who s = respond who .ok .none (writeLine l) s := by
  simp [takeReadLine, hc, hl]

theorem takeVoidLine_idle (hc : s.ticket.current = none) :
    takeVoidLine n who s = respond who .rejected .ticketState [] s := by
  simp [takeVoidLine, hc]

theorem takeVoidLine_not_opened (hc : s.ticket.current = some k) (ho : k.phase ≠ .opened) :
    takeVoidLine n who s = respond who .rejected .ticketState [] s := by
  simp [takeVoidLine, hc, ho]

theorem takeVoidLine_notFound (hc : s.ticket.current = some k) (ho : k.phase = .opened)
    (hl : lineNumbered k n = none) : takeVoidLine n who s = respond who .notFound .none [] s := by
  simp [takeVoidLine, hc, ho, hl]

theorem takeVoidLine_found (hc : s.ticket.current = some k) (ho : k.phase = .opened)
    (hl : lineNumbered k n = some l) : takeVoidLine n who s = voidLineOf who k l s := by
  simp [takeVoidLine, hc, ho, hl]

theorem voidLineOf_not_voidable (hv : ¬ (l.voided = false ∧ ∀ m, l.body ≠ .void m)) :
    voidLineOf who k l s = respond who .rejected .notVoidable [] s :=
  if_pos ((Bool.not_eq_false _).mp (mt (voidable_iff l).1 hv))

theorem voidLineOf_refused {why : AppendRefusal} (hv : l.voided = false ∧ ∀ m, l.body ≠ .void m)
    (hw : appendRefusal k (-l.amount) = some why) :
    voidLineOf who k l s = respond who (appendResult why).1 (appendResult why).2 [] s := by
  simp [voidLineOf, (voidable_iff l).2 hv, hw]

theorem voidLineOf_unweighed (hv : l.voided = false ∧ ∀ m, l.body ≠ .void m)
    (hw : appendRefusal k (-l.amount) = none) (hb : ¬ ∃ p, l.body = .weighed p) :
    voidLineOf who k l s = answerAppend who (voidTarget k l) s := by
  simp [voidLineOf, (voidable_iff l).2 hv, hw, mt (isWeighed_iff l).1 hb]

theorem voidLineOf_weighed (hv : l.voided = false ∧ ∀ m, l.body ≠ .void m)
    (hw : appendRefusal k (-l.amount) = none) (hb : ∃ p, l.body = .weighed p) :
    voidLineOf who k l s = grantCheck .voidLine who (fun _ s => answerAppend who (voidTarget k l) s) s := by
  simp [voidLineOf, (voidable_iff l).2 hv, hw, (isWeighed_iff l).2 hb]

end Take

/-! ## An accepted append -/

theorem setCurrent_keeps {changed : List Part} {s u : State} (k : Ticket) (h : Keeps changed s u) :
    Keeps (.ticket :: changed) s (setCurrent k u) := by
  intro p hp
  obtain ⟨hne, hm⟩ := not_or.1 (mt List.mem_cons.2 hp)
  have hs := h p hm
  cases p with
  | ticket => exact absurd rfl hne
  | _ => exact hs

/-- A request completes when its unit answers an append made in `u`, which has the mail and the ticket that it was taken
with: the ticket is the new one (R103). -/
theorem completes_append {c : Instr} {s u : State} {ch : Channel} {kind tag : Nat} {r : Request} {k : Ticket}
    {changed : List Part} {post : State → Prop}
    (hc : exec c s = .next (moment (requestArrives ch kind tag (some r)) s)) (ha : Admits s ch tag)
    (hr : requestInRange r = true)
    (ht : takeWellFormed r (asker s ch kind tag (weighEcho r)) (afterAdmission s (asker s ch kind tag (weighEcho r)))
      = answerAppend (asker s ch kind tag (weighEcho r)) k u)
    (hl : u.link = (afterAdmission s (asker s ch kind tag (weighEcho r))).link) (hk : Keeps changed s u)
    (hu : u.ticket = s.ticket) (hp : ∀ t, t.staff = u.staff → t.journal = u.journal → post t) :
    Completes c s (asker s ch kind tag (weighEcho r)) (responsePayload .ok .none (u8 k.lines.length ++ i64 k.total))
      none (.ticket :: changed) fun t => post t ∧ t.ticket = { s.ticket with current := some k } := by
  refine completes_of hc ha hr ht (LinkSame_of_link u.link.owed ?_) (setCurrent_keeps k hk) fun t h => ⟨?_, ?_⟩
  · rw [← hl]; rfl
  · exact hp t (h .staff) (h .journal)
  · exact (h .ticket).trans (by rw [← hu]; rfl)

/-- What holds after a command may be weakened. -/
theorem Completes_mono {c : Instr} {s : State} {who : Admitted} {payload : List Byte} {change : Option LinkChange}
    {changed : List Part} {post post' : State → Prop} (h : Completes c s who payload change changed post)
    (hp : ∀ t, post t → post' t) : Completes c s who payload change changed post' := by
  obtain ⟨t, hx, answered, kept, keeps, h⟩ := h
  exact ⟨t, hx, answered, kept, keeps, hp t h⟩

/-! ## KEYED LINE and READ LINE -/

/-- KEYED LINE on the lane, by the checks of R104 in their order. -/
theorem keyedLine_completes {s : State} {tag : Nat} {f : KeyedFields} (ha : Admits s .ticket tag)
    (hr : requestInRange (.keyedLine f) = true) :
    let refused (result : Result) (reason : Reason) :=
      Completes (.keyedLine tag (some f)) s (asker s .ticket 3 tag none) (responsePayload result reason []) none []
        fun _ => True
    (s.ticket.current = none → refused .rejected .ticketState)
    ∧ (∀ k why, s.ticket.current = some k → appendRefusal k f.amount = some why →
      refused (appendResult why).1 (appendResult why).2)
    ∧ ∀ k, s.ticket.current = some k → appendRefusal k f.amount = none →
      Completes (.keyedLine tag (some f)) s (asker s .ticket 3 tag none)
        (responsePayload .ok .none (u8 (k.lines.length + 1) ++ i64 (k.total + f.amount))) none [.ticket] fun t =>
          t.ticket = { s.ticket with current := some (appendLine k f.item f.amount (.keyed f.quantity)) } := by
  refine ⟨fun hc => ?_, fun k why hc hw => ?_, fun k hc hw => ?_⟩
  · exact completes_unchanged (exec_keyedLine s tag f) ha hr (takeKeyedLine_idle _ hc)
  · exact completes_unchanged (exec_keyedLine s tag f) ha hr (takeKeyedLine_refused _ hc hw)
  · have h := completes_append (changed := []) (post := fun _ => True) (exec_keyedLine s tag f) ha hr
      (takeKeyedLine_accepted _ hc hw) rfl (Keeps_afterAdmission _ _ _) rfl fun _ _ _ => trivial
    rw [show (appendLine k f.item f.amount (.keyed f.quantity)).lines.length = k.lines.length + 1 by
      simp [appendLine]] at h
    exact Completes_mono h fun _ => And.right

/-- READ LINE on the lane (R107). -/
theorem readLine_completes {s : State} {tag n : Nat} (ha : Admits s .ticket tag)
    (hr : requestInRange (.readLine n) = true) :
    let read (result : Result) (reason : Reason) (fields : List Byte) :=
      Completes (.readLine tag (some n)) s (asker s .ticket 5 tag none) (responsePayload result reason fields) none []
        fun _ => True
    (s.ticket.current = none → read .rejected .ticketState [])
    ∧ ∀ k, s.ticket.current = some k →
      (lineNumbered k n = none → read .notFound .none [])
      ∧ ∀ l, lineNumbered k n = some l → read .ok .none (writeLine l) := by
  refine ⟨fun hc => ?_, fun k hc => ⟨fun hl => ?_, fun l hl => ?_⟩⟩
  · exact completes_unchanged (exec_readLine s tag n) ha hr (takeReadLine_idle _ hc)
  · exact completes_unchanged (exec_readLine s tag n) ha hr (takeReadLine_notFound _ hc hl)
  · exact completes_unchanged (exec_readLine s tag n) ha hr (takeReadLine_found _ hc hl)

/-- Settles O41: the checks of KEYED LINE are `appendRefusal`'s, the reply of READ LINE is `writeLine` by line kind. -/
theorem keyedLinesAndTheTotal : Obligations.KeyedLinesAndTheTotal := by
  refine ⟨fun s tag f ha hi hq hlo hhi => ?_, fun s tag n ha h1 h99 => ?_, fun s tag f n ha => ⟨fun h => ?_, fun h => ?_⟩⟩
  · obtain ⟨idle, refused, accepted⟩ := keyedLine_completes ha ((keyedLine_inRange_iff f).2 ⟨hi, hq, hlo, hhi⟩)
    dsimp only
    split
    next hc => exact idle hc
    next k hc =>
      split_ifs with ho hl hz
      · exact refused k _ hc (appendRefusal_of_not_opened ho)
      · exact refused k _ hc (appendRefusal_of_full (not_not.1 ho) hl)
      · exact refused k _ hc (appendRefusal_of_beyond (not_not.1 ho) (by omega) (by omega))
      · exact accepted k hc (appendRefusal_of_fits (not_not.1 ho) (by omega) (by omega))
  · obtain ⟨idle, taken⟩ := readLine_completes ha ((readLine_inRange_iff n).2 ⟨h1, h99⟩)
    dsimp only
    split
    next hc => exact idle hc
    next k hc =>
      obtain ⟨notFound, found⟩ := taken k hc
      refine ⟨fun h => notFound (lineNumbered_eq_none h), fun before l after hk hn hb => ?_⟩
      have answered := found l (lineNumbered_eq_some hk hn hb)
      subst hn
      cases hbody : l.body with
      | weighed p => exact writeLine_weighed hbody ▸ answered
      | keyed q => exact writeLine_keyed hbody ▸ answered
      | void m => exact writeLine_void hbody ▸ answered
  · refine completes_badField (exec_keyedLine s tag f) ha (by simp) fun hr => ?_
    obtain ⟨hi, hq, hlo, hhi⟩ := (keyedLine_inRange_iff f).1 hr
    rcases h with h | ⟨q, hsome, h⟩ | h | h
    · omega
    · have := hq q hsome
      omega
    · omega
    · omega
  · refine completes_badField (exec_readLine s tag n) ha (by simp) fun hr => ?_
    have := (readLine_inRange_iff n).1 hr
    omega

/-! ## VOID LINE -/

/-- The state in which a grant has been consumed by VOID LINE and GRANT_USED journalled (R94). -/
def voidGrantUsed (g : Grant) (s : State) : State :=
  journal (.grantUsed .voidLine g.supervisor) (s.setStaff { s.staff with grant := none })

theorem grantCheck_voidLine {r : Admitted} {accept : Nat → State → State} {s : State} {g : Grant}
    (h : s.staff.grant = some g) :
    grantCheck .voidLine r accept s = accept g.supervisor (voidGrantUsed g s) := grantCheck_some h

theorem voidGrantUsed_keeps (g : Grant) (s : State) : Keeps [.staff, .journal] s (voidGrantUsed g s) := by
  intro p hp
  cases p with
  | staff | journal => simp at hp
  | _ => rfl

section Void

variable {s : State} {tag n : Nat} {k : Ticket} {l : Line}

/-- VOID LINE answered without a change (R106). -/
theorem voidLine_refused {result : Result} {reason : Reason} (ha : Admits s .ticket tag)
    (hr : requestInRange (.voidLine n) = true)
    (ht : ∀ who, takeVoidLine n who (afterAdmission s who) = respond who result reason [] (afterAdmission s who)) :
    Completes (.voidLine tag (some n)) s (asker s .ticket 4 tag none) (responsePayload result reason []) none []
      fun _ => True :=
  completes_unchanged (exec_voidLine s tag n) ha hr (ht _)

/-- VOID LINE accepted (R106): `used` is what the grant's consumption makes of the state, if one is needed. -/
theorem voidLine_accepted {before after : List Line} {parts : List Part} {post : State → Prop}
    {used : State → State} (ha : Admits s .ticket tag)
    (hr : requestInRange (.voidLine n) = true) (hk : k.lines = before ++ l :: after) (hn : l.number = n)
    (hu : ∀ x ∈ before ++ after, x.number ≠ n)
    (ht : ∀ who, takeVoidLine n who (afterAdmission s who)
      = answerAppend who (voidTarget k l) (used (afterAdmission s who)))
    (hl : ∀ x, (used x).link = x.link) (hkeeps : ∀ x, Keeps parts x (used x)) (hticket : .ticket ∉ parts)
    (hp : ∀ who t, t.staff = (used (afterAdmission s who)).staff → t.journal = (used (afterAdmission s who)).journal →
      post t) :
    Completes (.voidLine tag (some n)) s (asker s .ticket 4 tag none)
      (responsePayload .ok .none (u8 (k.lines.length + 1) ++ i64 (k.total - l.amount))) none (.ticket :: parts)
      fun t => post t ∧ t.ticket = { s.ticket with current := some { k with
        lines := before ++ { l with voided := true } :: after
          ++ [⟨k.lines.length + 1, l.item, -l.amount, false, .void n⟩]
        total := k.total - l.amount
        checkMatched := false } } := by
  subst hn
  have h := completes_append (exec_voidLine s tag l.number) ha hr (ht _) (hl _)
    (hkeeps (afterAdmission s _)) (hkeeps (afterAdmission s _) .ticket hticket) (hp _)
  have hlen : (voidTarget k l).lines.length = k.lines.length + 1 := by simp [voidTarget, appendLine]
  rw [hlen, voidTarget_eq hk hu] at h
  exact h

end Void

/-- Settles O42, by the checks of R106 in their order. -/
theorem voidLineCancelsItsTarget : Obligations.VoidLineCancelsItsTarget := by
  intro s tag n ha
  dsimp only
  split_ifs with hrange
  case neg => exact completes_badField (exec_voidLine s tag n) ha (by simp) (mt (voidLine_inRange_iff n).1 hrange)
  have hr := (voidLine_inRange_iff n).2 hrange
  split
  next hc => exact voidLine_refused ha hr fun who => takeVoidLine_idle who hc
  next k hc =>
    refine ⟨fun ho => ?_, fun ho hnone => ?_, fun before l after ho hk hn hu => ?_⟩
    · exact voidLine_refused ha hr fun who => takeVoidLine_not_opened who hc ho
    · exact voidLine_refused ha hr fun who => takeVoidLine_notFound who hc ho (lineNumbered_eq_none hnone)
    have found : ∀ who, takeVoidLine n who (afterAdmission s who) = voidLineOf who k l (afterAdmission s who) := fun who =>
      takeVoidLine_found who hc ho (lineNumbered_eq_some hk hn (List.forall_mem_append.1 hu).1)
    refine ⟨fun hv => ?_, fun hv hl => ?_, fun hv hl hz => ?_, fun hv hl hz hb => ?_, fun hv hl hz hb hg => ?_,
      fun g hv hl hz hb hg => ?_⟩
    · exact voidLine_refused ha hr fun who => (found who).trans (voidLineOf_not_voidable who hv)
    · exact voidLine_refused ha hr fun who => (found who).trans
        (voidLineOf_refused who hv (appendRefusal_of_full ho hl))
    · exact voidLine_refused ha hr fun who => (found who).trans
        (voidLineOf_refused who hv (appendRefusal_of_beyond ho hl hz))
    · exact voidLine_accepted (used := id) ha hr hk hn hu (fun who => (found who).trans
        (voidLineOf_unweighed who hv (appendRefusal_of_fits ho hl hz) hb)) (fun _ => rfl) (fun _ => Keeps_refl _ _)
        (by simp) fun _ _ _ _ => trivial
    · refine completes_of (exec_voidLine s tag n) ha hr ((found _).trans
        ((voidLineOf_weighed _ hv (appendRefusal_of_fits ho hl hz) hb).trans (grantCheck_none hg)))
        (LinkSame_of_link _ rfl) (raiseReason_keeps _ _) fun t h => ?_
      have raised := raiseReason_raised .supervisorNeeded s
      rw [Raised, h .lamps]
      exact raised
    · exact voidLine_accepted (used := voidGrantUsed g) ha hr hk hn hu (fun who => (found who).trans
        ((voidLineOf_weighed who hv (appendRefusal_of_fits ho hl hz) hb).trans (grantCheck_voidLine hg))) (fun _ => rfl)
        (voidGrantUsed_keeps g) (by decide) fun who t hstaff hjournal => ⟨hstaff, hjournal⟩

end Sys2Proof.Machine
end
